-- ==== Sys2Proof/Syntax.lean ====
section
/-! DEFINITION. The instructions: one constructor for each of the 256 rows of spec/opcode_table.json, in opcode order
(R84). Immediate bytes are not part of a constructor: the decoder looks at the opcode alone (R83, R86) and the sequencer
reads immediates from memory on later cycles (R66, R105); `Code` (WellFormed.lean) pairs an instruction with them (log 2). -/

namespace Sys2Proof

inductive Instr where
  /-- NOP (R120) -/
  | nop
  /-- LD BC,d16 (R160) -/
  | ldPairBCImm
  /-- LD (BC),A (R142) -/
  | ldIndBCA
  /-- unimplemented opcode 03 (R85) -/
  | unimpl03
  /-- unimplemented opcode 04 (R85) -/
  | unimpl04
  /-- unimplemented opcode 05 (R85) -/
  | unimpl05
  /-- LD B,d8 (R122) -/
  | ldBImm
  /-- unimplemented opcode 07 (R85) -/
  | unimpl07
  /-- LD (a16),SP (R162) -/
  | ldAbsSP
  /-- unimplemented opcode 09 (R85) -/
  | unimpl09
  /-- LD A,(BC) (R140) -/
  | ldAIndBC
  /-- unimplemented opcode 0B (R85) -/
  | unimpl0B
  /-- unimplemented opcode 0C (R85) -/
  | unimpl0C
  /-- unimplemented opcode 0D (R85) -/
  | unimpl0D
  /-- LD C,d8 (R122) -/
  | ldCImm
  /-- unimplemented opcode 0F (R85) -/
  | unimpl0F
  /-- unimplemented opcode 10 (R85) -/
  | unimpl10
  /-- LD DE,d16 (R160) -/
  | ldPairDEImm
  /-- LD (DE),A (R143) -/
  | ldIndDEA
  /-- unimplemented opcode 13 (R85) -/
  | unimpl13
  /-- unimplemented opcode 14 (R85) -/
  | unimpl14
  /-- unimplemented opcode 15 (R85) -/
  | unimpl15
  /-- LD D,d8 (R122) -/
  | ldDImm
  /-- unimplemented opcode 17 (R85) -/
  | unimpl17
  /-- unimplemented opcode 18 (R85) -/
  | unimpl18
  /-- unimplemented opcode 19 (R85) -/
  | unimpl19
  /-- LD A,(DE) (R141) -/
  | ldAIndDE
  /-- unimplemented opcode 1B (R85) -/
  | unimpl1B
  /-- unimplemented opcode 1C (R85) -/
  | unimpl1C
  /-- unimplemented opcode 1D (R85) -/
  | unimpl1D
  /-- LD E,d8 (R122) -/
  | ldEImm
  /-- unimplemented opcode 1F (R85) -/
  | unimpl1F
  /-- unimplemented opcode 20 (R85) -/
  | unimpl20
  /-- LD HL,d16 (R160) -/
  | ldPairHLImm
  /-- LD (HL+),A (R134) -/
  | ldIndHLIncA
  /-- unimplemented opcode 23 (R85) -/
  | unimpl23
  /-- unimplemented opcode 24 (R85) -/
  | unimpl24
  /-- unimplemented opcode 25 (R85) -/
  | unimpl25
  /-- LD H,d8 (R122) -/
  | ldHImm
  /-- unimplemented opcode 27 (R85) -/
  | unimpl27
  /-- unimplemented opcode 28 (R85) -/
  | unimpl28
  /-- unimplemented opcode 29 (R85) -/
  | unimpl29
  /-- LD A,(HL+) (R131) -/
  | ldAIndHLInc
  /-- unimplemented opcode 2B (R85) -/
  | unimpl2B
  /-- unimplemented opcode 2C (R85) -/
  | unimpl2C
  /-- unimplemented opcode 2D (R85) -/
  | unimpl2D
  /-- LD L,d8 (R122) -/
  | ldLImm
  /-- unimplemented opcode 2F (R85) -/
  | unimpl2F
  /-- unimplemented opcode 30 (R85) -/
  | unimpl30
  /-- LD SP,d16 (R161) -/
  | ldSPImm
  /-- LD (HL-),A (R135) -/
  | ldIndHLDecA
  /-- unimplemented opcode 33 (R85) -/
  | unimpl33
  /-- unimplemented opcode 34 (R85) -/
  | unimpl34
  /-- unimplemented opcode 35 (R85) -/
  | unimpl35
  /-- LD (HL),d8 (R136) -/
  | ldIndHLImm
  /-- unimplemented opcode 37 (R85) -/
  | unimpl37
  /-- unimplemented opcode 38 (R85) -/
  | unimpl38
  /-- unimplemented opcode 39 (R85) -/
  | unimpl39
  /-- LD A,(HL-) (R132) -/
  | ldAIndHLDec
  /-- unimplemented opcode 3B (R85) -/
  | unimpl3B
  /-- unimplemented opcode 3C (R85) -/
  | unimpl3C
  /-- unimplemented opcode 3D (R85) -/
  | unimpl3D
  /-- LD A,d8 (R122) -/
  | ldAImm
  /-- unimplemented opcode 3F (R85) -/
  | unimpl3F
  /-- LD B,B (R121) -/
  | ldBB
  /-- LD B,C (R121) -/
  | ldBC
  /-- LD B,D (R121) -/
  | ldBD
  /-- LD B,E (R121) -/
  | ldBE
  /-- LD B,H (R121) -/
  | ldBH
  /-- LD B,L (R121) -/
  | ldBL
  /-- LD B,(HL) (R130) -/
  | ldBIndHL
  /-- LD B,A (R121) -/
  | ldBA
  /-- LD C,B (R121) -/
  | ldCB
  /-- LD C,C (R121) -/
  | ldCC
  /-- LD C,D (R121) -/
  | ldCD
  /-- LD C,E (R121) -/
  | ldCE
  /-- LD C,H (R121) -/
  | ldCH
  /-- LD C,L (R121) -/
  | ldCL
  /-- LD C,(HL) (R130) -/
  | ldCIndHL
  /-- LD C,A (R121) -/
  | ldCA
  /-- LD D,B (R121) -/
  | ldDB
  /-- LD D,C (R121) -/
  | ldDC
  /-- LD D,D (R121) -/
  | ldDD
  /-- LD D,E (R121) -/
  | ldDE
  /-- LD D,H (R121) -/
  | ldDH
  /-- LD D,L (R121) -/
  | ldDL
  /-- LD D,(HL) (R130) -/
  | ldDIndHL
  /-- LD D,A (R121) -/
  | ldDA
  /-- LD E,B (R121) -/
  | ldEB
  /-- LD E,C (R121) -/
  | ldEC
  /-- LD E,D (R121) -/
  | ldED
  /-- LD E,E (R121) -/
  | ldEE
  /-- LD E,H (R121) -/
  | ldEH
  /-- LD E,L (R121) -/
  | ldEL
  /-- LD E,(HL) (R130) -/
  | ldEIndHL
  /-- LD E,A (R121) -/
  | ldEA
  /-- LD H,B (R121) -/
  | ldHB
  /-- LD H,C (R121) -/
  | ldHC
  /-- LD H,D (R121) -/
  | ldHD
  /-- LD H,E (R121) -/
  | ldHE
  /-- LD H,H (R121) -/
  | ldHH
  /-- LD H,L (R121) -/
  | ldHL
  /-- LD H,(HL) (R130) -/
  | ldHIndHL
  /-- LD H,A (R121) -/
  | ldHA
  /-- LD L,B (R121) -/
  | ldLB
  /-- LD L,C (R121) -/
  | ldLC
  /-- LD L,D (R121) -/
  | ldLD
  /-- LD L,E (R121) -/
  | ldLE
  /-- LD L,H (R121) -/
  | ldLH
  /-- LD L,L (R121) -/
  | ldLL
  /-- LD L,(HL) (R130) -/
  | ldLIndHL
  /-- LD L,A (R121) -/
  | ldLA
  /-- LD (HL),B (R133) -/
  | ldIndHLB
  /-- LD (HL),C (R133) -/
  | ldIndHLC
  /-- LD (HL),D (R133) -/
  | ldIndHLD
  /-- LD (HL),E (R133) -/
  | ldIndHLE
  /-- LD (HL),H (R133) -/
  | ldIndHLH
  /-- LD (HL),L (R133) -/
  | ldIndHLL
  /-- unimplemented opcode 76 (R85) -/
  | unimpl76
  /-- LD (HL),A (R133) -/
  | ldIndHLA
  /-- LD A,B (R121) -/
  | ldAB
  /-- LD A,C (R121) -/
  | ldAC
  /-- LD A,D (R121) -/
  | ldAD
  /-- LD A,E (R121) -/
  | ldAE
  /-- LD A,H (R121) -/
  | ldAH
  /-- LD A,L (R121) -/
  | ldAL
  /-- LD A,(HL) (R130) -/
  | ldAIndHL
  /-- LD A,A (R121) -/
  | ldAA
  /-- ADD A,B (R181) -/
  | addB
  /-- ADD A,C (R181) -/
  | addC
  /-- ADD A,D (R181) -/
  | addD
  /-- ADD A,E (R181) -/
  | addE
  /-- ADD A,H (R181) -/
  | addH
  /-- ADD A,L (R181) -/
  | addL
  /-- unimplemented opcode 86 (R85) -/
  | unimpl86
  /-- ADD A,A (R181) -/
  | addA
  /-- ADC A,B (R182) -/
  | adcB
  /-- ADC A,C (R182) -/
  | adcC
  /-- ADC A,D (R182) -/
  | adcD
  /-- ADC A,E (R182) -/
  | adcE
  /-- ADC A,H (R182) -/
  | adcH
  /-- ADC A,L (R182) -/
  | adcL
  /-- unimplemented opcode 8E (R85) -/
  | unimpl8E
  /-- ADC A,A (R182) -/
  | adcA
  /-- SUB A,B (R183) -/
  | subB
  /-- SUB A,C (R183) -/
  | subC
  /-- SUB A,D (R183) -/
  | subD
  /-- SUB A,E (R183) -/
  | subE
  /-- SUB A,H (R183) -/
  | subH
  /-- SUB A,L (R183) -/
  | subL
  /-- unimplemented opcode 96 (R85) -/
  | unimpl96
  /-- SUB A,A (R183) -/
  | subA
  /-- SBC A,B (R184) -/
  | sbcB
  /-- SBC A,C (R184) -/
  | sbcC
  /-- SBC A,D (R184) -/
  | sbcD
  /-- SBC A,E (R184) -/
  | sbcE
  /-- SBC A,H (R184) -/
  | sbcH
  /-- SBC A,L (R184) -/
  | sbcL
  /-- unimplemented opcode 9E (R85) -/
  | unimpl9E
  /-- SBC A,A (R184) -/
  | sbcA
  /-- AND A,B (R185) -/
  | andB
  /-- AND A,C (R185) -/
  | andC
  /-- AND A,D (R185) -/
  | andD
  /-- AND A,E (R185) -/
  | andE
  /-- AND A,H (R185) -/
  | andH
  /-- AND A,L (R185) -/
  | andL
  /-- unimplemented opcode A6 (R85) -/
  | unimplA6
  /-- AND A,A (R185) -/
  | andA
  /-- XOR A,B (R186) -/
  | xorB
  /-- XOR A,C (R186) -/
  | xorC
  /-- XOR A,D (R186) -/
  | xorD
  /-- XOR A,E (R186) -/
  | xorE
  /-- XOR A,H (R186) -/
  | xorH
  /-- XOR A,L (R186) -/
  | xorL
  /-- unimplemented opcode AE (R85) -/
  | unimplAE
  /-- XOR A,A (R186) -/
  | xorA
  /-- OR A,B (R187) -/
  | orB
  /-- OR A,C (R187) -/
  | orC
  /-- OR A,D (R187) -/
  | orD
  /-- OR A,E (R187) -/
  | orE
  /-- OR A,H (R187) -/
  | orH
  /-- OR A,L (R187) -/
  | orL
  /-- unimplemented opcode B6 (R85) -/
  | unimplB6
  /-- OR A,A (R187) -/
  | orA
  /-- CP A,B (R188) -/
  | cpB
  /-- CP A,C (R188) -/
  | cpC
  /-- CP A,D (R188) -/
  | cpD
  /-- CP A,E (R188) -/
  | cpE
  /-- CP A,H (R188) -/
  | cpH
  /-- CP A,L (R188) -/
  | cpL
  /-- unimplemented opcode BE (R85) -/
  | unimplBE
  /-- CP A,A (R188) -/
  | cpA
  /-- unimplemented opcode C0 (R85) -/
  | unimplC0
  /-- POP BC (R166) -/
  | popBC
  /-- unimplemented opcode C2 (R85) -/
  | unimplC2
  /-- unimplemented opcode C3 (R85) -/
  | unimplC3
  /-- unimplemented opcode C4 (R85) -/
  | unimplC4
  /-- PUSH BC (R164) -/
  | pushBC
  /-- unimplemented opcode C6 (R85) -/
  | unimplC6
  /-- unimplemented opcode C7 (R85) -/
  | unimplC7
  /-- unimplemented opcode C8 (R85) -/
  | unimplC8
  /-- unimplemented opcode C9 (R85) -/
  | unimplC9
  /-- unimplemented opcode CA (R85) -/
  | unimplCA
  /-- unimplemented opcode CB (R85) -/
  | unimplCB
  /-- unimplemented opcode CC (R85) -/
  | unimplCC
  /-- unimplemented opcode CD (R85) -/
  | unimplCD
  /-- unimplemented opcode CE (R85) -/
  | unimplCE
  /-- unimplemented opcode CF (R85) -/
  | unimplCF
  /-- unimplemented opcode D0 (R85) -/
  | unimplD0
  /-- POP DE (R166) -/
  | popDE
  /-- unimplemented opcode D2 (R85) -/
  | unimplD2
  /-- unimplemented opcode D3 (R85) -/
  | unimplD3
  /-- unimplemented opcode D4 (R85) -/
  | unimplD4
  /-- PUSH DE (R164) -/
  | pushDE
  /-- unimplemented opcode D6 (R85) -/
  | unimplD6
  /-- unimplemented opcode D7 (R85) -/
  | unimplD7
  /-- unimplemented opcode D8 (R85) -/
  | unimplD8
  /-- unimplemented opcode D9 (R85) -/
  | unimplD9
  /-- unimplemented opcode DA (R85) -/
  | unimplDA
  /-- unimplemented opcode DB (R85) -/
  | unimplDB
  /-- unimplemented opcode DC (R85) -/
  | unimplDC
  /-- unimplemented opcode DD (R85) -/
  | unimplDD
  /-- unimplemented opcode DE (R85) -/
  | unimplDE
  /-- unimplemented opcode DF (R85) -/
  | unimplDF
  /-- LDH (a8),A (R147) -/
  | ldhImmA
  /-- POP HL (R166) -/
  | popHL
  /-- LD (C),A (R145) -/
  | ldIndCA
  /-- unimplemented opcode E3 (R85) -/
  | unimplE3
  /-- unimplemented opcode E4 (R85) -/
  | unimplE4
  /-- PUSH HL (R164) -/
  | pushHL
  /-- unimplemented opcode E6 (R85) -/
  | unimplE6
  /-- unimplemented opcode E7 (R85) -/
  | unimplE7
  /-- unimplemented opcode E8 (R85) -/
  | unimplE8
  /-- unimplemented opcode E9 (R85) -/
  | unimplE9
  /-- LD (a16),A (R149) -/
  | ldAbsA
  /-- unimplemented opcode EB (R85) -/
  | unimplEB
  /-- unimplemented opcode EC (R85) -/
  | unimplEC
  /-- unimplemented opcode ED (R85) -/
  | unimplED
  /-- unimplemented opcode EE (R85) -/
  | unimplEE
  /-- unimplemented opcode EF (R85) -/
  | unimplEF
  /-- LDH A,(a8) (R146) -/
  | ldhAImm
  /-- POP AF (R167) -/
  | popAF
  /-- LD A,(C) (R144) -/
  | ldAIndC
  /-- unimplemented opcode F3 (R85) -/
  | unimplF3
  /-- unimplemented opcode F4 (R85) -/
  | unimplF4
  /-- PUSH AF (R165) -/
  | pushAF
  /-- unimplemented opcode F6 (R85) -/
  | unimplF6
  /-- unimplemented opcode F7 (R85) -/
  | unimplF7
  /-- LD HL,SP+r8 (R168) -/
  | ldHLSPImm
  /-- LD SP,HL (R163) -/
  | ldSPHL
  /-- LD A,(a16) (R148) -/
  | ldAAbs
  /-- unimplemented opcode FB (R85) -/
  | unimplFB
  /-- unimplemented opcode FC (R85) -/
  | unimplFC
  /-- unimplemented opcode FD (R85) -/
  | unimplFD
  /-- unimplemented opcode FE (R85) -/
  | unimplFE
  /-- unimplemented opcode FF (R85) -/
  | unimplFF
  deriving DecidableEq, Repr

end Sys2Proof
end

