-- ==== Sys2Proof/Word.lean ====
section
/-! DEFINITION. Machine words and the names of registers, flags and ALU operations. -/

namespace Sys2Proof

/-- A memory byte, an 8-bit register half, an opcode (R4). -/
abbrev Byte := BitVec 8

/-- A 16-bit register, pointer or address (R4). -/
abbrev Word := BitVec 16

/-- The seven 8-bit registers an instruction can name by a register code (R22); `F` has no code. -/
inductive Reg8 where
  | b | c | d | e | h | l | a
  deriving DecidableEq, Repr

/-- The four register pairs of the Register File (R20). -/
inductive Pair where
  | bc | de | hl | af
  deriving DecidableEq, Repr

/-- The four flags, named as in R26. -/
inductive FlagId where
  | zero | subtract | halfCarry | carry
  deriving DecidableEq, Repr

/-- The eight ALU operations, in the order of their selector y (R180). -/
inductive AluOp where
  | add | adc | sub | sbc | and | xor | or | cp
  deriving DecidableEq, Repr

end Sys2Proof
end

