-- ==== Sys2Proof/WellFormed.lean ====
section
/-! DEFINITION. A whole instruction, with its immediate operand, and when it is well formed (R80, R82). -/

namespace Sys2Proof

/-- The three instruction formats (R80). -/
inductive Format where
  | op | opI8 | opI16
  deriving DecidableEq, Repr

/-- The immediate operand that follows an opcode (R82). -/
inductive Imm where
  | none
  /-- d8, a8 or r8 -/
  | imm8 (v : Byte)
  /-- d16 or a16, as the value assembled little-endian -/
  | imm16 (v : Word)
  deriving DecidableEq, Repr

/-- A whole instruction as it lies in memory: opcode and immediate operand. -/
structure Code where
  instr : Instr
  imm : Imm
  deriving DecidableEq, Repr

/-- The format of each instruction (R80, R84). An unimplemented opcode is one byte: it faults before a second byte
would be read (R86, R201). -/
def Instr.format (i : Instr) : Format :=
  match i with
  | .nop => .op
  | .ldPairBCImm => .opI16
  | .ldIndBCA => .op
  | .unimpl03 => .op
  | .unimpl04 => .op
  | .unimpl05 => .op
  | .ldBImm => .opI8
  | .unimpl07 => .op
  | .ldAbsSP => .opI16
  | .unimpl09 => .op
  | .ldAIndBC => .op
  | .unimpl0B => .op
  | .unimpl0C => .op
  | .unimpl0D => .op
  | .ldCImm => .opI8
  | .unimpl0F => .op
  | .unimpl10 => .op
  | .ldPairDEImm => .opI16
  | .ldIndDEA => .op
  | .unimpl13 => .op
  | .unimpl14 => .op
  | .unimpl15 => .op
  | .ldDImm => .opI8
  | .unimpl17 => .op
  | .unimpl18 => .op
  | .unimpl19 => .op
  | .ldAIndDE => .op
  | .unimpl1B => .op
  | .unimpl1C => .op
  | .unimpl1D => .op
  | .ldEImm => .opI8
  | .unimpl1F => .op
  | .unimpl20 => .op
  | .ldPairHLImm => .opI16
  | .ldIndHLIncA => .op
  | .unimpl23 => .op
  | .unimpl24 => .op
  | .unimpl25 => .op
  | .ldHImm => .opI8
  | .unimpl27 => .op
  | .unimpl28 => .op
  | .unimpl29 => .op
  | .ldAIndHLInc => .op
  | .unimpl2B => .op
  | .unimpl2C => .op
  | .unimpl2D => .op
  | .ldLImm => .opI8
  | .unimpl2F => .op
  | .unimpl30 => .op
  | .ldSPImm => .opI16
  | .ldIndHLDecA => .op
  | .unimpl33 => .op
  | .unimpl34 => .op
  | .unimpl35 => .op
  | .ldIndHLImm => .opI8
  | .unimpl37 => .op
  | .unimpl38 => .op
  | .unimpl39 => .op
  | .ldAIndHLDec => .op
  | .unimpl3B => .op
  | .unimpl3C => .op
  | .unimpl3D => .op
  | .ldAImm => .opI8
  | .unimpl3F => .op
  | .ldBB => .op
  | .ldBC => .op
  | .ldBD => .op
  | .ldBE => .op
  | .ldBH => .op
  | .ldBL => .op
  | .ldBIndHL => .op
  | .ldBA => .op
  | .ldCB => .op
  | .ldCC => .op
  | .ldCD => .op
  | .ldCE => .op
  | .ldCH => .op
  | .ldCL => .op
  | .ldCIndHL => .op
  | .ldCA => .op
  | .ldDB => .op
  | .ldDC => .op
  | .ldDD => .op
  | .ldDE => .op
  | .ldDH => .op
  | .ldDL => .op
  | .ldDIndHL => .op
  | .ldDA => .op
  | .ldEB => .op
  | .ldEC => .op
  | .ldED => .op
  | .ldEE => .op
  | .ldEH => .op
  | .ldEL => .op
  | .ldEIndHL => .op
  | .ldEA => .op
  | .ldHB => .op
  | .ldHC => .op
  | .ldHD => .op
  | .ldHE => .op
  | .ldHH => .op
  | .ldHL => .op
  | .ldHIndHL => .op
  | .ldHA => .op
  | .ldLB => .op
  | .ldLC => .op
  | .ldLD => .op
  | .ldLE => .op
  | .ldLH => .op
  | .ldLL => .op
  | .ldLIndHL => .op
  | .ldLA => .op
  | .ldIndHLB => .op
  | .ldIndHLC => .op
  | .ldIndHLD => .op
  | .ldIndHLE => .op
  | .ldIndHLH => .op
  | .ldIndHLL => .op
  | .unimpl76 => .op
  | .ldIndHLA => .op
  | .ldAB => .op
  | .ldAC => .op
  | .ldAD => .op
  | .ldAE => .op
  | .ldAH => .op
  | .ldAL => .op
  | .ldAIndHL => .op
  | .ldAA => .op
  | .addB => .op
  | .addC => .op
  | .addD => .op
  | .addE => .op
  | .addH => .op
  | .addL => .op
  | .unimpl86 => .op
  | .addA => .op
  | .adcB => .op
  | .adcC => .op
  | .adcD => .op
  | .adcE => .op
  | .adcH => .op
  | .adcL => .op
  | .unimpl8E => .op
  | .adcA => .op
  | .subB => .op
  | .subC => .op
  | .subD => .op
  | .subE => .op
  | .subH => .op
  | .subL => .op
  | .unimpl96 => .op
  | .subA => .op
  | .sbcB => .op
  | .sbcC => .op
  | .sbcD => .op
  | .sbcE => .op
  | .sbcH => .op
  | .sbcL => .op
  | .unimpl9E => .op
  | .sbcA => .op
  | .andB => .op
  | .andC => .op
  | .andD => .op
  | .andE => .op
  | .andH => .op
  | .andL => .op
  | .unimplA6 => .op
  | .andA => .op
  | .xorB => .op
  | .xorC => .op
  | .xorD => .op
  | .xorE => .op
  | .xorH => .op
  | .xorL => .op
  | .unimplAE => .op
  | .xorA => .op
  | .orB => .op
  | .orC => .op
  | .orD => .op
  | .orE => .op
  | .orH => .op
  | .orL => .op
  | .unimplB6 => .op
  | .orA => .op
  | .cpB => .op
  | .cpC => .op
  | .cpD => .op
  | .cpE => .op
  | .cpH => .op
  | .cpL => .op
  | .unimplBE => .op
  | .cpA => .op
  | .unimplC0 => .op
  | .popBC => .op
  | .unimplC2 => .op
  | .unimplC3 => .op
  | .unimplC4 => .op
  | .pushBC => .op
  | .unimplC6 => .op
  | .unimplC7 => .op
  | .unimplC8 => .op
  | .unimplC9 => .op
  | .unimplCA => .op
  | .unimplCB => .op
  | .unimplCC => .op
  | .unimplCD => .op
  | .unimplCE => .op
  | .unimplCF => .op
  | .unimplD0 => .op
  | .popDE => .op
  | .unimplD2 => .op
  | .unimplD3 => .op
  | .unimplD4 => .op
  | .pushDE => .op
  | .unimplD6 => .op
  | .unimplD7 => .op
  | .unimplD8 => .op
  | .unimplD9 => .op
  | .unimplDA => .op
  | .unimplDB => .op
  | .unimplDC => .op
  | .unimplDD => .op
  | .unimplDE => .op
  | .unimplDF => .op
  | .ldhImmA => .opI8
  | .popHL => .op
  | .ldIndCA => .op
  | .unimplE3 => .op
  | .unimplE4 => .op
  | .pushHL => .op
  | .unimplE6 => .op
  | .unimplE7 => .op
  | .unimplE8 => .op
  | .unimplE9 => .op
  | .ldAbsA => .opI16
  | .unimplEB => .op
  | .unimplEC => .op
  | .unimplED => .op
  | .unimplEE => .op
  | .unimplEF => .op
  | .ldhAImm => .opI8
  | .popAF => .op
  | .ldAIndC => .op
  | .unimplF3 => .op
  | .unimplF4 => .op
  | .pushAF => .op
  | .unimplF6 => .op
  | .unimplF7 => .op
  | .ldHLSPImm => .opI8
  | .ldSPHL => .op
  | .ldAAbs => .opI16
  | .unimplFB => .op
  | .unimplFC => .op
  | .unimplFD => .op
  | .unimplFE => .op
  | .unimplFF => .op

/-- The immediate is of the kind the format has (R80). -/
def Code.wellFormed (x : Code) : Bool :=
  match x.instr.format, x.imm with
  | .op, .none => true
  | .opI8, .imm8 _ => true
  | .opI16, .imm16 _ => true
  | _, _ => false

end Sys2Proof
end

