-- ==== Sys2Proof/Decode.lean ====
section
/-! DEFINITION. The decoder and the encoder (30_encoding.md). -/

namespace Sys2Proof

/-! ### Fields and register codes -/

/-- Field x, bits 7:6 (R81). -/
def fieldX (op : Byte) : Nat := op.toNat / 64

/-- Field y, bits 5:3 (R81). -/
def fieldY (op : Byte) : Nat := op.toNat / 8 % 8

/-- Field z, bits 2:0 (R81). -/
def fieldZ (op : Byte) : Nat := op.toNat % 8

/-- Field p, bits 5:4 (R81). -/
def fieldP (op : Byte) : Nat := op.toNat / 16 % 4

/-- Field q, bit 3 (R81). -/
def fieldQ (op : Byte) : Nat := op.toNat / 8 % 2

/-- `R8[c]` (R22); code 6 names no register. -/
def reg8OfCode (c : Nat) : Option Reg8 :=
  match c with
  | 0 => some .b
  | 1 => some .c
  | 2 => some .d
  | 3 => some .e
  | 4 => some .h
  | 5 => some .l
  | 7 => some .a
  | _ => none

/-- The code of a register (R22). -/
def codeOfReg8 (r : Reg8) : BitVec 3 :=
  match r with
  | .b => 0
  | .c => 1
  | .d => 2
  | .e => 3
  | .h => 4
  | .l => 5
  | .a => 7

/-- `R16S[p]` (R23); below 3 it is `R16[p]` too. -/
def pairOfCode (p : Nat) : Pair :=
  match p with
  | 0 => .bc
  | 1 => .de
  | 2 => .hl
  | _ => .af

/-- The code of a pair in `R16S` (R23). -/
def codeOfPair (p : Pair) : BitVec 2 :=
  match p with
  | .bc => 0
  | .de => 1
  | .hl => 2
  | .af => 3

/-- ALU[y] (R83, R180). -/
def aluOfCode (y : Nat) : AluOp :=
  match y with
  | 0 => .add
  | 1 => .adc
  | 2 => .sub
  | 3 => .sbc
  | 4 => .and
  | 5 => .xor
  | 6 => .or
  | _ => .cp

/-! ### The forms and the classification -/

/-- The instruction forms of R83 and R104, with their register operands. -/
inductive Form where
  | nop
  | ldRegReg (dst src : Reg8)
  | ldRegImm (dst : Reg8)
  | ldRegHL (dst : Reg8)
  | ldAHLInc
  | ldAHLDec
  | ldHLReg (r : Reg8)
  | ldHLIncA
  | ldHLDecA
  | ldHLImm
  | ldABC
  | ldADE
  | ldBCA
  | ldDEA
  | ldAC
  | ldCA
  | ldhAImm
  | ldhImmA
  | ldAAbs
  | ldAbsA
  | ldPairImm (p : Pair)
  | ldSPImm
  | ldAbsSP
  | ldSPHL
  | push (p : Pair)
  | pushAF
  | pop (p : Pair)
  | popAF
  | ldHLSPImm
  | alu (op : AluOp) (r : Reg8)
  | compare (r : Reg8)
  | unimplemented
  deriving DecidableEq, Repr

/-- `Classify(op)`, the ordered decision procedure of R83; the first match wins. -/
def classify (op : Byte) : Form :=
  let x := fieldX op; let y := fieldY op; let z := fieldZ op; let p := fieldP op; let q := fieldQ op
  if op = 0x00 then .nop
  else if op = 0x08 then .ldAbsSP
  else if x = 0 ∧ z = 1 ∧ q = 0 then (if p = 3 then .ldSPImm else .ldPairImm (pairOfCode p))
  else if x = 0 ∧ z = 2 ∧ q = 0 then
    (match p with | 0 => .ldBCA | 1 => .ldDEA | 2 => .ldHLIncA | _ => .ldHLDecA)
  else if x = 0 ∧ z = 2 ∧ q = 1 then
    (match p with | 0 => .ldABC | 1 => .ldADE | 2 => .ldAHLInc | _ => .ldAHLDec)
  else if x = 0 ∧ z = 6 then
    (match reg8OfCode y with | none => .ldHLImm | some r => .ldRegImm r)
  else if x = 0 then .unimplemented
  else if x = 1 then
    (match reg8OfCode y, reg8OfCode z with
     | none, none => .unimplemented
     | some dst, none => .ldRegHL dst
     | none, some r => .ldHLReg r
     | some dst, some r => .ldRegReg dst r)
  else if x = 2 then
    (match reg8OfCode z with
     | none => .unimplemented
     | some r => if aluOfCode y = .cp then .compare r else .alu (aluOfCode y) r)
  else if z = 1 ∧ q = 0 then (if p = 3 then .popAF else .pop (pairOfCode p))
  else if z = 5 ∧ q = 0 then (if p = 3 then .pushAF else .push (pairOfCode p))
  else if op = 0xE0 then .ldhImmA
  else if op = 0xF0 then .ldhAImm
  else if op = 0xE2 then .ldCA
  else if op = 0xF2 then .ldAC
  else if op = 0xEA then .ldAbsA
  else if op = 0xFA then .ldAAbs
  else if op = 0xF8 then .ldHLSPImm
  else if op = 0xF9 then .ldSPHL
  else .unimplemented

/-- The form of each instruction, with its operands (R84, and the encoding lines of files 41 to 45). -/
def Instr.form (i : Instr) : Form :=
  match i with
  | .nop => .nop
  | .ldPairBCImm => .ldPairImm .bc
  | .ldIndBCA => .ldBCA
  | .unimpl03 => .unimplemented
  | .unimpl04 => .unimplemented
  | .unimpl05 => .unimplemented
  | .ldBImm => .ldRegImm .b
  | .unimpl07 => .unimplemented
  | .ldAbsSP => .ldAbsSP
  | .unimpl09 => .unimplemented
  | .ldAIndBC => .ldABC
  | .unimpl0B => .unimplemented
  | .unimpl0C => .unimplemented
  | .unimpl0D => .unimplemented
  | .ldCImm => .ldRegImm .c
  | .unimpl0F => .unimplemented
  | .unimpl10 => .unimplemented
  | .ldPairDEImm => .ldPairImm .de
  | .ldIndDEA => .ldDEA
  | .unimpl13 => .unimplemented
  | .unimpl14 => .unimplemented
  | .unimpl15 => .unimplemented
  | .ldDImm => .ldRegImm .d
  | .unimpl17 => .unimplemented
  | .unimpl18 => .unimplemented
  | .unimpl19 => .unimplemented
  | .ldAIndDE => .ldADE
  | .unimpl1B => .unimplemented
  | .unimpl1C => .unimplemented
  | .unimpl1D => .unimplemented
  | .ldEImm => .ldRegImm .e
  | .unimpl1F => .unimplemented
  | .unimpl20 => .unimplemented
  | .ldPairHLImm => .ldPairImm .hl
  | .ldIndHLIncA => .ldHLIncA
  | .unimpl23 => .unimplemented
  | .unimpl24 => .unimplemented
  | .unimpl25 => .unimplemented
  | .ldHImm => .ldRegImm .h
  | .unimpl27 => .unimplemented
  | .unimpl28 => .unimplemented
  | .unimpl29 => .unimplemented
  | .ldAIndHLInc => .ldAHLInc
  | .unimpl2B => .unimplemented
  | .unimpl2C => .unimplemented
  | .unimpl2D => .unimplemented
  | .ldLImm => .ldRegImm .l
  | .unimpl2F => .unimplemented
  | .unimpl30 => .unimplemented
  | .ldSPImm => .ldSPImm
  | .ldIndHLDecA => .ldHLDecA
  | .unimpl33 => .unimplemented
  | .unimpl34 => .unimplemented
  | .unimpl35 => .unimplemented
  | .ldIndHLImm => .ldHLImm
  | .unimpl37 => .unimplemented
  | .unimpl38 => .unimplemented
  | .unimpl39 => .unimplemented
  | .ldAIndHLDec => .ldAHLDec
  | .unimpl3B => .unimplemented
  | .unimpl3C => .unimplemented
  | .unimpl3D => .unimplemented
  | .ldAImm => .ldRegImm .a
  | .unimpl3F => .unimplemented
  | .ldBB => .ldRegReg .b .b
  | .ldBC => .ldRegReg .b .c
  | .ldBD => .ldRegReg .b .d
  | .ldBE => .ldRegReg .b .e
  | .ldBH => .ldRegReg .b .h
  | .ldBL => .ldRegReg .b .l
  | .ldBIndHL => .ldRegHL .b
  | .ldBA => .ldRegReg .b .a
  | .ldCB => .ldRegReg .c .b
  | .ldCC => .ldRegReg .c .c
  | .ldCD => .ldRegReg .c .d
  | .ldCE => .ldRegReg .c .e
  | .ldCH => .ldRegReg .c .h
  | .ldCL => .ldRegReg .c .l
  | .ldCIndHL => .ldRegHL .c
  | .ldCA => .ldRegReg .c .a
  | .ldDB => .ldRegReg .d .b
  | .ldDC => .ldRegReg .d .c
  | .ldDD => .ldRegReg .d .d
  | .ldDE => .ldRegReg .d .e
  | .ldDH => .ldRegReg .d .h
  | .ldDL => .ldRegReg .d .l
  | .ldDIndHL => .ldRegHL .d
  | .ldDA => .ldRegReg .d .a
  | .ldEB => .ldRegReg .e .b
  | .ldEC => .ldRegReg .e .c
  | .ldED => .ldRegReg .e .d
  | .ldEE => .ldRegReg .e .e
  | .ldEH => .ldRegReg .e .h
  | .ldEL => .ldRegReg .e .l
  | .ldEIndHL => .ldRegHL .e
  | .ldEA => .ldRegReg .e .a
  | .ldHB => .ldRegReg .h .b
  | .ldHC => .ldRegReg .h .c
  | .ldHD => .ldRegReg .h .d
  | .ldHE => .ldRegReg .h .e
  | .ldHH => .ldRegReg .h .h
  | .ldHL => .ldRegReg .h .l
  | .ldHIndHL => .ldRegHL .h
  | .ldHA => .ldRegReg .h .a
  | .ldLB => .ldRegReg .l .b
  | .ldLC => .ldRegReg .l .c
  | .ldLD => .ldRegReg .l .d
  | .ldLE => .ldRegReg .l .e
  | .ldLH => .ldRegReg .l .h
  | .ldLL => .ldRegReg .l .l
  | .ldLIndHL => .ldRegHL .l
  | .ldLA => .ldRegReg .l .a
  | .ldIndHLB => .ldHLReg .b
  | .ldIndHLC => .ldHLReg .c
  | .ldIndHLD => .ldHLReg .d
  | .ldIndHLE => .ldHLReg .e
  | .ldIndHLH => .ldHLReg .h
  | .ldIndHLL => .ldHLReg .l
  | .unimpl76 => .unimplemented
  | .ldIndHLA => .ldHLReg .a
  | .ldAB => .ldRegReg .a .b
  | .ldAC => .ldRegReg .a .c
  | .ldAD => .ldRegReg .a .d
  | .ldAE => .ldRegReg .a .e
  | .ldAH => .ldRegReg .a .h
  | .ldAL => .ldRegReg .a .l
  | .ldAIndHL => .ldRegHL .a
  | .ldAA => .ldRegReg .a .a
  | .addB => .alu .add .b
  | .addC => .alu .add .c
  | .addD => .alu .add .d
  | .addE => .alu .add .e
  | .addH => .alu .add .h
  | .addL => .alu .add .l
  | .unimpl86 => .unimplemented
  | .addA => .alu .add .a
  | .adcB => .alu .adc .b
  | .adcC => .alu .adc .c
  | .adcD => .alu .adc .d
  | .adcE => .alu .adc .e
  | .adcH => .alu .adc .h
  | .adcL => .alu .adc .l
  | .unimpl8E => .unimplemented
  | .adcA => .alu .adc .a
  | .subB => .alu .sub .b
  | .subC => .alu .sub .c
  | .subD => .alu .sub .d
  | .subE => .alu .sub .e
  | .subH => .alu .sub .h
  | .subL => .alu .sub .l
  | .unimpl96 => .unimplemented
  | .subA => .alu .sub .a
  | .sbcB => .alu .sbc .b
  | .sbcC => .alu .sbc .c
  | .sbcD => .alu .sbc .d
  | .sbcE => .alu .sbc .e
  | .sbcH => .alu .sbc .h
  | .sbcL => .alu .sbc .l
  | .unimpl9E => .unimplemented
  | .sbcA => .alu .sbc .a
  | .andB => .alu .and .b
  | .andC => .alu .and .c
  | .andD => .alu .and .d
  | .andE => .alu .and .e
  | .andH => .alu .and .h
  | .andL => .alu .and .l
  | .unimplA6 => .unimplemented
  | .andA => .alu .and .a
  | .xorB => .alu .xor .b
  | .xorC => .alu .xor .c
  | .xorD => .alu .xor .d
  | .xorE => .alu .xor .e
  | .xorH => .alu .xor .h
  | .xorL => .alu .xor .l
  | .unimplAE => .unimplemented
  | .xorA => .alu .xor .a
  | .orB => .alu .or .b
  | .orC => .alu .or .c
  | .orD => .alu .or .d
  | .orE => .alu .or .e
  | .orH => .alu .or .h
  | .orL => .alu .or .l
  | .unimplB6 => .unimplemented
  | .orA => .alu .or .a
  | .cpB => .compare .b
  | .cpC => .compare .c
  | .cpD => .compare .d
  | .cpE => .compare .e
  | .cpH => .compare .h
  | .cpL => .compare .l
  | .unimplBE => .unimplemented
  | .cpA => .compare .a
  | .unimplC0 => .unimplemented
  | .popBC => .pop .bc
  | .unimplC2 => .unimplemented
  | .unimplC3 => .unimplemented
  | .unimplC4 => .unimplemented
  | .pushBC => .push .bc
  | .unimplC6 => .unimplemented
  | .unimplC7 => .unimplemented
  | .unimplC8 => .unimplemented
  | .unimplC9 => .unimplemented
  | .unimplCA => .unimplemented
  | .unimplCB => .unimplemented
  | .unimplCC => .unimplemented
  | .unimplCD => .unimplemented
  | .unimplCE => .unimplemented
  | .unimplCF => .unimplemented
  | .unimplD0 => .unimplemented
  | .popDE => .pop .de
  | .unimplD2 => .unimplemented
  | .unimplD3 => .unimplemented
  | .unimplD4 => .unimplemented
  | .pushDE => .push .de
  | .unimplD6 => .unimplemented
  | .unimplD7 => .unimplemented
  | .unimplD8 => .unimplemented
  | .unimplD9 => .unimplemented
  | .unimplDA => .unimplemented
  | .unimplDB => .unimplemented
  | .unimplDC => .unimplemented
  | .unimplDD => .unimplemented
  | .unimplDE => .unimplemented
  | .unimplDF => .unimplemented
  | .ldhImmA => .ldhImmA
  | .popHL => .pop .hl
  | .ldIndCA => .ldCA
  | .unimplE3 => .unimplemented
  | .unimplE4 => .unimplemented
  | .pushHL => .push .hl
  | .unimplE6 => .unimplemented
  | .unimplE7 => .unimplemented
  | .unimplE8 => .unimplemented
  | .unimplE9 => .unimplemented
  | .ldAbsA => .ldAbsA
  | .unimplEB => .unimplemented
  | .unimplEC => .unimplemented
  | .unimplED => .unimplemented
  | .unimplEE => .unimplemented
  | .unimplEF => .unimplemented
  | .ldhAImm => .ldhAImm
  | .popAF => .popAF
  | .ldAIndC => .ldAC
  | .unimplF3 => .unimplemented
  | .unimplF4 => .unimplemented
  | .pushAF => .pushAF
  | .unimplF6 => .unimplemented
  | .unimplF7 => .unimplemented
  | .ldHLSPImm => .ldHLSPImm
  | .ldSPHL => .ldSPHL
  | .ldAAbs => .ldAAbs
  | .unimplFB => .unimplemented
  | .unimplFC => .unimplemented
  | .unimplFD => .unimplemented
  | .unimplFE => .unimplemented
  | .unimplFF => .unimplemented

/-! ### The opcode map (R84): row = high nibble, column = low nibble -/

/-- Opcodes 00 to 0F (R84). -/
def opcodeRow0 : List Instr :=
  [.nop, .ldPairBCImm, .ldIndBCA, .unimpl03, .unimpl04, .unimpl05, .ldBImm, .unimpl07,
    .ldAbsSP, .unimpl09, .ldAIndBC, .unimpl0B, .unimpl0C, .unimpl0D, .ldCImm, .unimpl0F]

/-- Opcodes 10 to 1F (R84). -/
def opcodeRow1 : List Instr :=
  [.unimpl10, .ldPairDEImm, .ldIndDEA, .unimpl13, .unimpl14, .unimpl15, .ldDImm, .unimpl17,
    .unimpl18, .unimpl19, .ldAIndDE, .unimpl1B, .unimpl1C, .unimpl1D, .ldEImm, .unimpl1F]

/-- Opcodes 20 to 2F (R84). -/
def opcodeRow2 : List Instr :=
  [.unimpl20, .ldPairHLImm, .ldIndHLIncA, .unimpl23, .unimpl24, .unimpl25, .ldHImm, .unimpl27,
    .unimpl28, .unimpl29, .ldAIndHLInc, .unimpl2B, .unimpl2C, .unimpl2D, .ldLImm, .unimpl2F]

/-- Opcodes 30 to 3F (R84). -/
def opcodeRow3 : List Instr :=
  [.unimpl30, .ldSPImm, .ldIndHLDecA, .unimpl33, .unimpl34, .unimpl35, .ldIndHLImm, .unimpl37,
    .unimpl38, .unimpl39, .ldAIndHLDec, .unimpl3B, .unimpl3C, .unimpl3D, .ldAImm, .unimpl3F]

/-- Opcodes 40 to 4F (R84). -/
def opcodeRow4 : List Instr :=
  [.ldBB, .ldBC, .ldBD, .ldBE, .ldBH, .ldBL, .ldBIndHL, .ldBA,
    .ldCB, .ldCC, .ldCD, .ldCE, .ldCH, .ldCL, .ldCIndHL, .ldCA]

/-- Opcodes 50 to 5F (R84). -/
def opcodeRow5 : List Instr :=
  [.ldDB, .ldDC, .ldDD, .ldDE, .ldDH, .ldDL, .ldDIndHL, .ldDA,
    .ldEB, .ldEC, .ldED, .ldEE, .ldEH, .ldEL, .ldEIndHL, .ldEA]

/-- Opcodes 60 to 6F (R84). -/
def opcodeRow6 : List Instr :=
  [.ldHB, .ldHC, .ldHD, .ldHE, .ldHH, .ldHL, .ldHIndHL, .ldHA,
    .ldLB, .ldLC, .ldLD, .ldLE, .ldLH, .ldLL, .ldLIndHL, .ldLA]

/-- Opcodes 70 to 7F (R84). -/
def opcodeRow7 : List Instr :=
  [.ldIndHLB, .ldIndHLC, .ldIndHLD, .ldIndHLE, .ldIndHLH, .ldIndHLL, .unimpl76, .ldIndHLA,
    .ldAB, .ldAC, .ldAD, .ldAE, .ldAH, .ldAL, .ldAIndHL, .ldAA]

/-- Opcodes 80 to 8F (R84). -/
def opcodeRow8 : List Instr :=
  [.addB, .addC, .addD, .addE, .addH, .addL, .unimpl86, .addA,
    .adcB, .adcC, .adcD, .adcE, .adcH, .adcL, .unimpl8E, .adcA]

/-- Opcodes 90 to 9F (R84). -/
def opcodeRow9 : List Instr :=
  [.subB, .subC, .subD, .subE, .subH, .subL, .unimpl96, .subA,
    .sbcB, .sbcC, .sbcD, .sbcE, .sbcH, .sbcL, .unimpl9E, .sbcA]

/-- Opcodes A0 to AF (R84). -/
def opcodeRowA : List Instr :=
  [.andB, .andC, .andD, .andE, .andH, .andL, .unimplA6, .andA,
    .xorB, .xorC, .xorD, .xorE, .xorH, .xorL, .unimplAE, .xorA]

/-- Opcodes B0 to BF (R84). -/
def opcodeRowB : List Instr :=
  [.orB, .orC, .orD, .orE, .orH, .orL, .unimplB6, .orA,
    .cpB, .cpC, .cpD, .cpE, .cpH, .cpL, .unimplBE, .cpA]

/-- Opcodes C0 to CF (R84). -/
def opcodeRowC : List Instr :=
  [.unimplC0, .popBC, .unimplC2, .unimplC3, .unimplC4, .pushBC, .unimplC6, .unimplC7,
    .unimplC8, .unimplC9, .unimplCA, .unimplCB, .unimplCC, .unimplCD, .unimplCE, .unimplCF]

/-- Opcodes D0 to DF (R84). -/
def opcodeRowD : List Instr :=
  [.unimplD0, .popDE, .unimplD2, .unimplD3, .unimplD4, .pushDE, .unimplD6, .unimplD7,
    .unimplD8, .unimplD9, .unimplDA, .unimplDB, .unimplDC, .unimplDD, .unimplDE, .unimplDF]

/-- Opcodes E0 to EF (R84). -/
def opcodeRowE : List Instr :=
  [.ldhImmA, .popHL, .ldIndCA, .unimplE3, .unimplE4, .pushHL, .unimplE6, .unimplE7,
    .unimplE8, .unimplE9, .ldAbsA, .unimplEB, .unimplEC, .unimplED, .unimplEE, .unimplEF]

/-- Opcodes F0 to FF (R84). -/
def opcodeRowF : List Instr :=
  [.ldhAImm, .popAF, .ldAIndC, .unimplF3, .unimplF4, .pushAF, .unimplF6, .unimplF7,
    .ldHLSPImm, .ldSPHL, .ldAAbs, .unimplFB, .unimplFC, .unimplFD, .unimplFE, .unimplFF]

/-- The complete map (R84). -/
def opcodeRows : List (List Instr) :=
  [opcodeRow0, opcodeRow1, opcodeRow2, opcodeRow3, opcodeRow4, opcodeRow5, opcodeRow6, opcodeRow7,
    opcodeRow8, opcodeRow9, opcodeRowA, opcodeRowB, opcodeRowC, opcodeRowD, opcodeRowE, opcodeRowF]

/-- The instruction an opcode byte stands for: every value is exactly one row of the table (R83, R84). -/
def decodeOpcode (op : Byte) : Instr := (opcodeRows.getD (op.toNat / 16) []).getD (op.toNat % 16) .nop

/-- Why a list of bytes holds no whole instruction. -/
inductive DecodeError where
  /-- no byte -/
  | noOpcode
  /-- the bytes end before the immediate does -/
  | missingImmediate
  deriving DecidableEq, Repr

/-- Read one whole instruction from a list of bytes: opcode, then the immediate, low byte first (R80, R82). -/
def decode (bytes : List Byte) : Except DecodeError (Code × List Byte) :=
  match bytes with
  | [] => .error .noOpcode
  | op :: rest =>
    match (decodeOpcode op).format, rest with
    | .op, _ => .ok (⟨decodeOpcode op, .none⟩, rest)
    | .opI8, v :: rest => .ok (⟨decodeOpcode op, .imm8 v⟩, rest)
    | .opI16, l :: h :: rest => .ok (⟨decodeOpcode op, .imm16 (h ++ l)⟩, rest)
    | .opI8, [] => .error .missingImmediate
    | .opI16, _ => .error .missingImmediate

/-! ### The encoder -/

/-- The opcode byte of each instruction (R84). -/
def Instr.opcode (i : Instr) : Byte :=
  match i with
  | .nop => 0x00
  | .ldPairBCImm => 0x01
  | .ldIndBCA => 0x02
  | .unimpl03 => 0x03
  | .unimpl04 => 0x04
  | .unimpl05 => 0x05
  | .ldBImm => 0x06
  | .unimpl07 => 0x07
  | .ldAbsSP => 0x08
  | .unimpl09 => 0x09
  | .ldAIndBC => 0x0A
  | .unimpl0B => 0x0B
  | .unimpl0C => 0x0C
  | .unimpl0D => 0x0D
  | .ldCImm => 0x0E
  | .unimpl0F => 0x0F
  | .unimpl10 => 0x10
  | .ldPairDEImm => 0x11
  | .ldIndDEA => 0x12
  | .unimpl13 => 0x13
  | .unimpl14 => 0x14
  | .unimpl15 => 0x15
  | .ldDImm => 0x16
  | .unimpl17 => 0x17
  | .unimpl18 => 0x18
  | .unimpl19 => 0x19
  | .ldAIndDE => 0x1A
  | .unimpl1B => 0x1B
  | .unimpl1C => 0x1C
  | .unimpl1D => 0x1D
  | .ldEImm => 0x1E
  | .unimpl1F => 0x1F
  | .unimpl20 => 0x20
  | .ldPairHLImm => 0x21
  | .ldIndHLIncA => 0x22
  | .unimpl23 => 0x23
  | .unimpl24 => 0x24
  | .unimpl25 => 0x25
  | .ldHImm => 0x26
  | .unimpl27 => 0x27
  | .unimpl28 => 0x28
  | .unimpl29 => 0x29
  | .ldAIndHLInc => 0x2A
  | .unimpl2B => 0x2B
  | .unimpl2C => 0x2C
  | .unimpl2D => 0x2D
  | .ldLImm => 0x2E
  | .unimpl2F => 0x2F
  | .unimpl30 => 0x30
  | .ldSPImm => 0x31
  | .ldIndHLDecA => 0x32
  | .unimpl33 => 0x33
  | .unimpl34 => 0x34
  | .unimpl35 => 0x35
  | .ldIndHLImm => 0x36
  | .unimpl37 => 0x37
  | .unimpl38 => 0x38
  | .unimpl39 => 0x39
  | .ldAIndHLDec => 0x3A
  | .unimpl3B => 0x3B
  | .unimpl3C => 0x3C
  | .unimpl3D => 0x3D
  | .ldAImm => 0x3E
  | .unimpl3F => 0x3F
  | .ldBB => 0x40
  | .ldBC => 0x41
  | .ldBD => 0x42
  | .ldBE => 0x43
  | .ldBH => 0x44
  | .ldBL => 0x45
  | .ldBIndHL => 0x46
  | .ldBA => 0x47
  | .ldCB => 0x48
  | .ldCC => 0x49
  | .ldCD => 0x4A
  | .ldCE => 0x4B
  | .ldCH => 0x4C
  | .ldCL => 0x4D
  | .ldCIndHL => 0x4E
  | .ldCA => 0x4F
  | .ldDB => 0x50
  | .ldDC => 0x51
  | .ldDD => 0x52
  | .ldDE => 0x53
  | .ldDH => 0x54
  | .ldDL => 0x55
  | .ldDIndHL => 0x56
  | .ldDA => 0x57
  | .ldEB => 0x58
  | .ldEC => 0x59
  | .ldED => 0x5A
  | .ldEE => 0x5B
  | .ldEH => 0x5C
  | .ldEL => 0x5D
  | .ldEIndHL => 0x5E
  | .ldEA => 0x5F
  | .ldHB => 0x60
  | .ldHC => 0x61
  | .ldHD => 0x62
  | .ldHE => 0x63
  | .ldHH => 0x64
  | .ldHL => 0x65
  | .ldHIndHL => 0x66
  | .ldHA => 0x67
  | .ldLB => 0x68
  | .ldLC => 0x69
  | .ldLD => 0x6A
  | .ldLE => 0x6B
  | .ldLH => 0x6C
  | .ldLL => 0x6D
  | .ldLIndHL => 0x6E
  | .ldLA => 0x6F
  | .ldIndHLB => 0x70
  | .ldIndHLC => 0x71
  | .ldIndHLD => 0x72
  | .ldIndHLE => 0x73
  | .ldIndHLH => 0x74
  | .ldIndHLL => 0x75
  | .unimpl76 => 0x76
  | .ldIndHLA => 0x77
  | .ldAB => 0x78
  | .ldAC => 0x79
  | .ldAD => 0x7A
  | .ldAE => 0x7B
  | .ldAH => 0x7C
  | .ldAL => 0x7D
  | .ldAIndHL => 0x7E
  | .ldAA => 0x7F
  | .addB => 0x80
  | .addC => 0x81
  | .addD => 0x82
  | .addE => 0x83
  | .addH => 0x84
  | .addL => 0x85
  | .unimpl86 => 0x86
  | .addA => 0x87
  | .adcB => 0x88
  | .adcC => 0x89
  | .adcD => 0x8A
  | .adcE => 0x8B
  | .adcH => 0x8C
  | .adcL => 0x8D
  | .unimpl8E => 0x8E
  | .adcA => 0x8F
  | .subB => 0x90
  | .subC => 0x91
  | .subD => 0x92
  | .subE => 0x93
  | .subH => 0x94
  | .subL => 0x95
  | .unimpl96 => 0x96
  | .subA => 0x97
  | .sbcB => 0x98
  | .sbcC => 0x99
  | .sbcD => 0x9A
  | .sbcE => 0x9B
  | .sbcH => 0x9C
  | .sbcL => 0x9D
  | .unimpl9E => 0x9E
  | .sbcA => 0x9F
  | .andB => 0xA0
  | .andC => 0xA1
  | .andD => 0xA2
  | .andE => 0xA3
  | .andH => 0xA4
  | .andL => 0xA5
  | .unimplA6 => 0xA6
  | .andA => 0xA7
  | .xorB => 0xA8
  | .xorC => 0xA9
  | .xorD => 0xAA
  | .xorE => 0xAB
  | .xorH => 0xAC
  | .xorL => 0xAD
  | .unimplAE => 0xAE
  | .xorA => 0xAF
  | .orB => 0xB0
  | .orC => 0xB1
  | .orD => 0xB2
  | .orE => 0xB3
  | .orH => 0xB4
  | .orL => 0xB5
  | .unimplB6 => 0xB6
  | .orA => 0xB7
  | .cpB => 0xB8
  | .cpC => 0xB9
  | .cpD => 0xBA
  | .cpE => 0xBB
  | .cpH => 0xBC
  | .cpL => 0xBD
  | .unimplBE => 0xBE
  | .cpA => 0xBF
  | .unimplC0 => 0xC0
  | .popBC => 0xC1
  | .unimplC2 => 0xC2
  | .unimplC3 => 0xC3
  | .unimplC4 => 0xC4
  | .pushBC => 0xC5
  | .unimplC6 => 0xC6
  | .unimplC7 => 0xC7
  | .unimplC8 => 0xC8
  | .unimplC9 => 0xC9
  | .unimplCA => 0xCA
  | .unimplCB => 0xCB
  | .unimplCC => 0xCC
  | .unimplCD => 0xCD
  | .unimplCE => 0xCE
  | .unimplCF => 0xCF
  | .unimplD0 => 0xD0
  | .popDE => 0xD1
  | .unimplD2 => 0xD2
  | .unimplD3 => 0xD3
  | .unimplD4 => 0xD4
  | .pushDE => 0xD5
  | .unimplD6 => 0xD6
  | .unimplD7 => 0xD7
  | .unimplD8 => 0xD8
  | .unimplD9 => 0xD9
  | .unimplDA => 0xDA
  | .unimplDB => 0xDB
  | .unimplDC => 0xDC
  | .unimplDD => 0xDD
  | .unimplDE => 0xDE
  | .unimplDF => 0xDF
  | .ldhImmA => 0xE0
  | .popHL => 0xE1
  | .ldIndCA => 0xE2
  | .unimplE3 => 0xE3
  | .unimplE4 => 0xE4
  | .pushHL => 0xE5
  | .unimplE6 => 0xE6
  | .unimplE7 => 0xE7
  | .unimplE8 => 0xE8
  | .unimplE9 => 0xE9
  | .ldAbsA => 0xEA
  | .unimplEB => 0xEB
  | .unimplEC => 0xEC
  | .unimplED => 0xED
  | .unimplEE => 0xEE
  | .unimplEF => 0xEF
  | .ldhAImm => 0xF0
  | .popAF => 0xF1
  | .ldAIndC => 0xF2
  | .unimplF3 => 0xF3
  | .unimplF4 => 0xF4
  | .pushAF => 0xF5
  | .unimplF6 => 0xF6
  | .unimplF7 => 0xF7
  | .ldHLSPImm => 0xF8
  | .ldSPHL => 0xF9
  | .ldAAbs => 0xFA
  | .unimplFB => 0xFB
  | .unimplFC => 0xFC
  | .unimplFD => 0xFD
  | .unimplFE => 0xFE
  | .unimplFF => 0xFF

/-- The immediate bytes in instruction-stream order (R80, R82). -/
def Imm.bytes (m : Imm) : List Byte :=
  match m with
  | .none => []
  | .imm8 v => [v]
  | .imm16 v => [v.extractLsb' 0 8, v.extractLsb' 8 8]

/-- The bytes of an instruction: opcode, then immediate, low byte first (R80). -/
def encode (x : Code) : List Byte := x.instr.opcode :: x.imm.bytes

/-- The byte at position `k` of an instruction whose bits are `w`, numbered with bit 0 the least significant of its
first byte; every bit from `nbits` up is 0. -/
def tableByte (nbits w k : Nat) : Byte := BitVec.ofNat 8 (w % 2 ^ nbits / 256 ^ k)

/-- The instruction the decoder reads from the bits `w` (opcode byte, then two bytes: the longest instruction). -/
def decodeTableWord (nbits w : Nat) : Option Instr :=
  match decode [tableByte nbits w 0, tableByte nbits w 1, tableByte nbits w 2] with
  | .ok (x, _) => some x.instr
  | .error _ => none

end Sys2Proof
end

