-- ==== Sys2Proof/Config.lean ====
section
/-! DEFINITION. The open parameters of R5 and the free values. -/

namespace Sys2Proof

/-- `P_LD_SP_HL_CYCLES`: machine cycles of LD SP,HL (R5, R163). -/
inductive LdSpHlCycles where
  | one | two
  deriving DecidableEq, Repr

/-- `P_CP_FLAGS`: half-carry and carry after CP (R5, R188). -/
inductive CpFlags where
  /-- the flags of SUB -/
  | subLike
  /-- an unconstrained draw each time -/
  | anyCH
  deriving DecidableEq, Repr

/-- `P_ENV`: whether the driver may change memory between ticks (R5, R62). -/
inductive Env where
  | closed | opened
  deriving DecidableEq, Repr

/-- The parameters a model takes as an argument (R5). The step's only argument is the state, so State carries
them; no step changes them (log 3). -/
structure Params where
  ldSpHlCycles : LdSpHlCycles
  cpFlags : CpFlags
  env : Env
  deriving DecidableEq, Repr

/-- The "default" column of R5. DESIGN CHOICE (log 3): only State.reset uses it. -/
def Params.default : Params := ⟨.two, .subLike, .closed⟩

/-- The free draw of half-carry (first) and carry (second) after the n-th CP executed under
`P_CP_FLAGS = ANY_CH` (R188). No body: nothing can be proved of its values (log 4). -/
opaque Config.freeCpFlags : Nat → Bool × Bool

end Sys2Proof
end

