-- ==== Sys2Proof/Machine/Flags.lean ====
section
/-! DEFINITION. The Flag Codec (R25, R26) and the ALU (R180 to R190), as pure functions. -/

namespace Sys2Proof.Machine

/-- `F <- z ‖ n ‖ h ‖ c ‖ 0b0000`, the byte `SetFlags` writes (R25). -/
def flagsByte (z n h c : Bool) : Byte :=
  BitVec.ofBool z ++ BitVec.ofBool n ++ BitVec.ofBool h ++ BitVec.ofBool c ++ 0b0000#4

/-- Position of a flag in `F` (R25, R26). -/
def flagBit (id : FlagId) : Nat :=
  match id with
  | .zero => 7
  | .subtract => 6
  | .halfCarry => 5
  | .carry => 4

/-- `getFlag(id)` (R26). -/
def getFlag (f : Byte) (id : FlagId) : Bool := f.getLsbD (flagBit id)

/-- `setFlag(id, b)`: the one bit changes, the other three flags stay, `F[3:0]` is cleared (R26). -/
def setFlag (f : Byte) (id : FlagId) (b : Bool) : Byte :=
  flagsByte (if id = .zero then b else getFlag f .zero) (if id = .subtract then b else getFlag f .subtract)
    (if id = .halfCarry then b else getFlag f .halfCarry) (if id = .carry then b else getFlag f .carry)

/-- The low nibble as an unsigned integer. -/
def nibble (b : Byte) : Nat := b.toNat % 16

/-- Carry out of bit 3 of a + b + cin (R181, R182, R168). -/
def halfCarryOut (a b : Byte) (cin : Bool) : Bool := decide (nibble a + nibble b + cin.toNat > 0xF)

/-- Carry out of bit 7 of a + b + cin (R181, R182, R168). -/
def carryOut (a b : Byte) (cin : Bool) : Bool := decide (a.toNat + b.toNat + cin.toNat > 0xFF)

/-- Borrow into bit 4 of a - b - cin (R183, R184). -/
def halfBorrow (a b : Byte) (cin : Bool) : Bool := decide (nibble a < nibble b + cin.toNat)

/-- Borrow out of bit 7 of a - b - cin (R183, R184). -/
def borrow (a b : Byte) (cin : Bool) : Bool := decide (a.toNat < b.toNat + cin.toNat)

/-- (a + b + cin) mod 256 (R181, R182). -/
def addMod (a b : Byte) (cin : Bool) : Byte := BitVec.ofNat 8 (a.toNat + b.toNat + cin.toNat)

/-- (a - b - cin) mod 256 (R183, R184). -/
def subMod (a b : Byte) (cin : Bool) : Byte := BitVec.ofInt 8 ((a.toNat : Int) - b.toNat - cin.toNat)

/-- What the ALU answers: the new accumulator and the four flags (R180). -/
structure AluOut where
  res : Byte
  z : Bool
  n : Bool
  h : Bool
  c : Bool
  deriving DecidableEq, Repr

/-- `ALU(op, a, b, cin)` (R180 to R188). CP's half-carry and carry are those of `P_CP_FLAGS = SUB_LIKE`. -/
def aluApply (op : AluOp) (a b : Byte) (cin : Bool) : AluOut :=
  match op with
  | .add => ⟨addMod a b false, addMod a b false == 0, false, halfCarryOut a b false, carryOut a b false⟩
  | .adc => ⟨addMod a b cin, addMod a b cin == 0, false, halfCarryOut a b cin, carryOut a b cin⟩
  | .sub => ⟨subMod a b false, subMod a b false == 0, true, halfBorrow a b false, borrow a b false⟩
  | .sbc => ⟨subMod a b cin, subMod a b cin == 0, true, halfBorrow a b cin, borrow a b cin⟩
  | .and => ⟨a &&& b, a &&& b == 0, false, true, false⟩
  | .xor => ⟨a ^^^ b, a ^^^ b == 0, false, false, false⟩
  | .or => ⟨a ||| b, a ||| b == 0, false, false, false⟩
  | .cp => ⟨a, a == b, true, halfBorrow a b false, borrow a b false⟩

end Sys2Proof.Machine
end

