-- ==== Sys2Proof/Machine/State.lean ====
section
/-! DEFINITION. The state of the block (10_state.md), as plain data, and the state after reset. -/

namespace Sys2Proof.Machine

/-- Memory as a list of (address, byte) pairs in the canonical form `Memory.wf` (R36). -/
abbrev Memory := List Host.Cell

/-- `seq`, the sequencer's control state between ticks (R32). -/
inductive SeqState where
  /-- the next tick decodes `opcode` and performs its cycle c0 -/
  | boundary
  /-- the instruction in `opcode` still owes n cycles -/
  | inFlight (n : Nat)
  /-- an unimplemented opcode was met; sticky (R202) -/
  | fault (op : Byte) (addr : Word)
  deriving DecidableEq, Repr

/-- What the driver may do between two ticks. -/
inductive DriverAct where
  /-- write one byte of memory; only under `P_ENV = OPEN` (R62) -/
  | poke (addr : Word) (value : Byte)
  /-- apply reset to the core (R220) -/
  | reset
  deriving DecidableEq, Repr

/-- The complete state of the block (10_state.md: "Nothing else is state"), and after it the model's own fields. -/
structure State where
  /-- accumulator `A` and flags byte `F` (R20, R25) -/
  af : Word
  bc : Word
  de : Word
  hl : Word
  /-- stack pointer (R28) -/
  sp : Word
  /-- program counter (R29, R30) -/
  pc : Word
  /-- the in-flight opcode (R31) -/
  opcode : Byte
  /-- the sequencer's control state (R32) -/
  seq : SeqState
  /-- scratch latch of the first immediate byte (R33) -/
  zlo : Byte
  /-- scratch latch of the second immediate byte (R33) -/
  zhi : Byte
  /-- the 65536 bytes of memory (R36) -/
  mem : Memory
  /-- the model's own: the parameters of R5 (log 3) -/
  params : Params
  /-- the model's own: how many free draws have been taken (log 4) -/
  draws : Nat
  /-- the model's own: what the driver does before each coming tick; after the end of the list, nothing (log 10) -/
  driver : List (List DriverAct)
  deriving DecidableEq, Repr

/-- The reasons a step can stop. The block's own exception is not among them: its entry is a next state (R201). -/
inductive Fault where
  /-- Raised by `runCycles` and `takeUnimplemented` in a state whose `seq` is `inFlight n` with n = 0 or n not below
  the length of the instruction, which R32 and R102 rule out and no run reaches. Safe: the model stops (log 9). -/
  | cycleOutOfRange
  deriving DecidableEq, Repr

/-- The reasons an instruction is refused. -/
inductive Refusal where
  /-- Raised by an arm of `exec` whose instruction has no meaning yet; no arm of this model does. Safe. -/
  | notModelled (mnemonic : String)
  deriving DecidableEq, Repr

/-- The outcome of one step. -/
abbrev Result := Host.Outcome State Fault Refusal

/-- The machine right after construction over the memory `mem0` with parameters `p` and driver script `d`
(R40, R220, R221). -/
def State.construct (mem0 : Memory) (p : Params) (d : List (List DriverAct)) : State where
  af := 0x0000#16
  bc := 0x0000#16
  de := 0x0000#16
  hl := 0x0000#16
  sp := 0x0000#16
  pc := 0x0000#16
  opcode := 0x00#8
  seq := .boundary
  zlo := 0x00#8
  zhi := 0x00#8
  mem := mem0
  params := p
  draws := 0
  driver := d

/-- The machine right after reset: R40, with no byte of memory listed, the default parameters of R5 and a driver
that does nothing (logs 3, 5, 7, 10). -/
def State.reset : State := State.construct [] Params.default []

end Sys2Proof.Machine
end

