-- ==== Sys2Proof/Machine/Ops.lean ====
section
/-! DEFINITION. The named operations over registers and memory, the fetch, taking the exception, and reset. -/

namespace Sys2Proof.Machine

/-! ### Bits and bytes -/

/-- Bits 15:8 of a 16-bit value (R20). -/
def hi (w : Word) : Byte := w.extractLsb' 8 8

/-- Bits 7:0 of a 16-bit value (R20). -/
def lo (w : Word) : Byte := w.extractLsb' 0 8

/-- `h ‖ l`, h in the more significant place (00_scope.md section 8). -/
def join (h l : Byte) : Word := h ++ l

/-- `sext_16(b)`: b if b[7] = 0, else 0xFF00 + b (00_scope.md section 8). -/
def sext16 (b : Byte) : Word := if b.getLsbD 7 then join 0xFF#8 b else join 0x00#8 b

/-- `0xFF00 + b = 0xFF ‖ b`, the high page address (R59). -/
def highPage (b : Byte) : Word := join 0xFF#8 b

/-! ### Memory -/

/-- What a byte of memory that nothing has written reads as. DESIGN CHOICE (log 5): the spec leaves MEM0 open. -/
def Memory.unlisted : Byte := 0x00#8

/-- The listed byte with key `k`, else `unlisted`. -/
def Memory.readKey (m : Memory) (k : Nat) : Byte :=
  match m with
  | [] => Memory.unlisted
  | (a, v) :: t => if a = k then v else Memory.readKey t k

/-- A cell in canonical form: no entry holds `unlisted`. -/
def Memory.cell (k : Nat) (v : Byte) : Memory := if v = Memory.unlisted then [] else [(k, v)]

/-- Replace the byte with key `k`, keeping the canonical form. -/
def Memory.writeKey (m : Memory) (k : Nat) (v : Byte) : Memory :=
  match m with
  | [] => Memory.cell k v
  | (a, w) :: t =>
    if a < k then (a, w) :: Memory.writeKey t k v
    else if a = k then Memory.cell k v ++ t
    else Memory.cell k v ++ (a, w) :: t

/-- `MemRead(addr, 1)`, total (R51). -/
def Memory.read (m : Memory) (addr : Word) : Byte := m.readKey addr.toNat

/-- `MemWrite(addr, 1, v)`, total (R51). -/
def Memory.write (m : Memory) (addr : Word) (v : Byte) : Memory := m.writeKey addr.toNat v

/-- Every key is at least `n`, keys rise strictly and lie below 65536, and no entry equals `unlisted`. -/
def Memory.wfFrom (n : Nat) (m : Memory) : Bool :=
  match m with
  | [] => true
  | (a, v) :: t => decide (n ≤ a) && decide (a < 65536) && decide (v ≠ Memory.unlisted) && Memory.wfFrom (a + 1) t

/-- The canonical form: equal memories are equal lists. -/
def Memory.wf (m : Memory) : Bool := m.wfFrom 0

/-- The byte memory holds at `addr`. -/
def State.byteAt (s : State) (addr : Word) : Byte := s.mem.read addr

/-- `MemWrite(addr, 1, v)`. -/
def State.store (s : State) (addr : Word) (v : Byte) : State := { s with mem := s.mem.write addr v }

/-! ### Register File (R20, R21) -/

/-- The 16-bit view of a pair. -/
def State.getPair (s : State) (p : Pair) : Word :=
  match p with
  | .bc => s.bc
  | .de => s.de
  | .hl => s.hl
  | .af => s.af

/-- Write a pair through its 16-bit view, all 16 bits, `F[3:0]` among them (R21). -/
def State.setPair (s : State) (p : Pair) (v : Word) : State :=
  match p with
  | .bc => { s with bc := v }
  | .de => { s with de := v }
  | .hl => { s with hl := v }
  | .af => { s with af := v }

/-- Write the high half of a pair; the low half stays (R21). -/
def State.setHi (s : State) (p : Pair) (v : Byte) : State := s.setPair p (join v (lo (s.getPair p)))

/-- Write the low half of a pair; the high half stays (R21). -/
def State.setLo (s : State) (p : Pair) (v : Byte) : State := s.setPair p (join (hi (s.getPair p)) v)

/-- `R8[c]` (R22). -/
def State.getR8 (s : State) (r : Reg8) : Byte :=
  match r with
  | .b => hi s.bc
  | .c => lo s.bc
  | .d => hi s.de
  | .e => lo s.de
  | .h => hi s.hl
  | .l => lo s.hl
  | .a => hi s.af

/-- `R8[c] <- v` (R22). -/
def State.setR8 (s : State) (r : Reg8) (v : Byte) : State :=
  match r with
  | .b => s.setHi .bc v
  | .c => s.setLo .bc v
  | .d => s.setHi .de v
  | .e => s.setLo .de v
  | .h => s.setHi .hl v
  | .l => s.setLo .hl v
  | .a => s.setHi .af v

/-- The flags byte `F`. -/
def State.getF (s : State) : Byte := lo s.af

/-- Write all 8 bits of `F`. -/
def State.setF (s : State) (v : Byte) : State := s.setLo .af v

/-- `SetFlags(z, n, h, c)` (R25). -/
def State.setFlags (s : State) (z n h c : Bool) : State := s.setF (flagsByte z n h c)

/-- The 16-bit immediate held in the latches, `zhi ‖ zlo` (R105). -/
def State.imm (s : State) : Word := join s.zhi s.zlo

/-! ### Fetch -/

/-- The byte `Fetch8()` returns: `MemRead(PC, 1)` (00_scope.md section 8). -/
def State.fetchByte (s : State) : Byte := s.byteAt s.pc

/-- The state after `Fetch8()`: `PC <- PC +16 1` (00_scope.md section 8, R29). -/
def State.advancePc (s : State) : State := { s with pc := s.pc + 1 }

/-- The overlapped fetch at the end of an instruction's last cycle (R103); `seq` returns to Boundary (R102). -/
def State.overlappedFetch (s : State) : State := { s.advancePc with opcode := s.fetchByte, seq := .boundary }

/-! ### The ALU cycle -/

/-- c0 of every ALU instruction but CP: operands and carry-in are read, then `A` and `F` are written (R180). -/
def State.aluWrite (s : State) (op : AluOp) (r : Reg8) : State :=
  let o := aluApply op (s.getR8 .a) (s.getR8 r) (getFlag s.getF .carry)
  (s.setR8 .a o.res).setFlags o.z o.n o.h o.c

/-- c0 of CP: `A` is not written; half-carry and carry by `P_CP_FLAGS`, a free draw under ANY_CH (R188, log 4). -/
def State.compare (s : State) (r : Reg8) : State :=
  let o := aluApply .cp (s.getR8 .a) (s.getR8 r) (getFlag s.getF .carry)
  match s.params.cpFlags with
  | .subLike => s.setFlags o.z o.n o.h o.c
  | .anyCH =>
    { s.setFlags o.z o.n (Config.freeCpFlags s.draws).1 (Config.freeCpFlags s.draws).2 with draws := s.draws + 1 }

/-- c0 of LD HL,SP+r8's second cycle: flags from the unsigned bytes, then HL (R168). -/
def State.hlFromSp (s : State) : State :=
  ({ s with hl := s.sp + sext16 s.zlo }).setFlags false false
    (halfCarryOut (lo s.sp) s.zlo false) (carryOut (lo s.sp) s.zlo false)

/-! ### The exception and the way out of it -/

/-- `raise Unimplemented(opcode, PC -16 1)`: `seq <- Fault(opcode, PC -16 1)`, nothing else changes (R200, R201). -/
def State.raiseUnimplemented (s : State) : State := { s with seq := .fault s.opcode (s.pc - 1) }

/-- One tick of an unimplemented opcode (R102, R201, R202): it takes the exception at decode. -/
def takeUnimplemented (s : State) : Result :=
  match s.seq with
  | .boundary => .next s.raiseUnimplemented
  | .fault _ _ => .next s
  | .inFlight _ => .fault .cycleOutOfRange

/-- Reset of a running core, the only way out of Fault: every register takes its R40 value, memory stays
(R202, R207, R220). The model's own fields stay (log 12). -/
def State.resetCore (s : State) : State := { State.construct s.mem s.params s.driver with draws := s.draws }

end Sys2Proof.Machine
end

