-- ==== Sys2Proof/Machine/Operands.lean ====
section
/-! DEFINITION. The data addressing modes (R59) and the byte sources of a store. -/

namespace Sys2Proof.Machine

/-- The data addressing modes of R59 (PUSH and POP address by SP in their own cycles). -/
inductive Mode where
  | hl | hlInc | hlDec | bc | de
  /-- (C): `0xFF ‖ C` -/
  | highC
  /-- (a8): `0xFF ‖ zlo` -/
  | highImm
  /-- (a16): `zhi ‖ zlo` -/
  | abs
  /-- (a16+1): `(zhi ‖ zlo) +16 1` -/
  | absNext
  deriving DecidableEq, Repr

/-- The effective address (R59). -/
def Mode.ea (m : Mode) (s : State) : Word :=
  match m with
  | .hl => s.hl
  | .hlInc => s.hl
  | .hlDec => s.hl
  | .bc => s.bc
  | .de => s.de
  | .highC => highPage (lo s.bc)
  | .highImm => highPage s.zlo
  | .abs => s.imm
  | .absNext => s.imm + 1

/-- The adjustment of HL in the same cycle, after the access (R59). -/
def Mode.adjust (m : Mode) (s : State) : State :=
  match m with
  | .hlInc => { s with hl := s.hl + 1 }
  | .hlDec => { s with hl := s.hl - 1 }
  | .hl => s
  | .bc => s
  | .de => s
  | .highC => s
  | .highImm => s
  | .abs => s
  | .absNext => s

/-- Where a stored byte comes from. -/
inductive Source where
  | reg (r : Reg8)
  /-- the latched immediate `zlo` -/
  | latch
  /-- `SP[7:0]` -/
  | spLo
  /-- `SP[15:8]` -/
  | spHi
  deriving DecidableEq, Repr

/-- The byte a source gives. -/
def Source.value (x : Source) (s : State) : Byte :=
  match x with
  | .reg r => s.getR8 r
  | .latch => s.zlo
  | .spLo => lo s.sp
  | .spHi => hi s.sp

end Sys2Proof.Machine
end

