-- ==== Sys2Proof/Machine/Sequencer.lean ====
section
/-! DEFINITION. The work of one cycle (the cells of R105), its memory accesses, and the transition rule R102 over a
schedule of such cycles. -/

namespace Sys2Proof.Machine

/-- The work of one machine cycle: one cell of the table of R105. -/
inductive MicroOp where
  /-- nothing (R106) -/
  | wait
  /-- `zlo <- Fetch8()` -/
  | latchLo
  /-- `zhi <- Fetch8()` -/
  | latchHi
  /-- `R8[dst] <- R8[src]` -/
  | copy (dst src : Reg8)
  /-- `R8[dst] <- zlo` -/
  | fromLatch (dst : Reg8)
  /-- `R8[dst] <- MemRead(ea, 1)`, then the mode's adjustment -/
  | load (dst : Reg8) (m : Mode)
  /-- `MemWrite(ea, 1, x)`, then the mode's adjustment -/
  | store (x : Source) (m : Mode)
  /-- `R16[p] <- zhi ‖ zlo` -/
  | pairFromLatches (p : Pair)
  /-- `SP <- zhi ‖ zlo` -/
  | spFromLatches
  /-- `SP <- HL` -/
  | spFromHL
  /-- `SP <- SP -16 1` -/
  | spDec
  /-- `MemWrite(SP, 1, hi(p)); SP <- SP -16 1` -/
  | pushHi (p : Pair)
  /-- `MemWrite(SP, 1, lo(p))` -/
  | pushLo (p : Pair)
  /-- `lo(p) <- MemRead(SP, 1); SP <- SP +16 1` -/
  | popLo (p : Pair)
  /-- `hi(p) <- MemRead(SP, 1); SP <- SP +16 1` -/
  | popHi (p : Pair)
  /-- flags and HL of LD HL,SP+r8 -/
  | hlFromSp
  /-- `(A, F) <- ALU(op, A, R8[r], fC)` -/
  | alu (op : AluOp) (r : Reg8)
  /-- flags of CP -/
  | compare (r : Reg8)
  deriving DecidableEq, Repr

/-- What the work of a cycle does to the state; statements of one cell act left to right (R105). -/
def MicroOp.run (w : MicroOp) (s : State) : State :=
  match w with
  | .wait => s
  | .latchLo => { s.advancePc with zlo := s.fetchByte }
  | .latchHi => { s.advancePc with zhi := s.fetchByte }
  | .copy dst src => s.setR8 dst (s.getR8 src)
  | .fromLatch dst => s.setR8 dst s.zlo
  | .load dst m => m.adjust (s.setR8 dst (s.byteAt (m.ea s)))
  | .store x m => m.adjust (s.store (m.ea s) (x.value s))
  | .pairFromLatches p => s.setPair p s.imm
  | .spFromLatches => { s with sp := s.imm }
  | .spFromHL => { s with sp := s.hl }
  | .spDec => { s with sp := s.sp - 1 }
  | .pushHi p => { s.store s.sp (hi (s.getPair p)) with sp := s.sp - 1 }
  | .pushLo p => s.store s.sp (lo (s.getPair p))
  | .popLo p => { s.setLo p (s.byteAt s.sp) with sp := s.sp + 1 }
  | .popHi p => { s.setHi p (s.byteAt s.sp) with sp := s.sp + 1 }
  | .hlFromSp => s.hlFromSp
  | .alu op r => s.aluWrite op r
  | .compare r => s.compare r

/-- One access on the Memory Bus (R7, R51). -/
inductive BusAccess where
  | read (addr : Word) (value : Byte)
  | write (addr : Word) (value : Byte)
  deriving DecidableEq, Repr

/-- The memory accesses of the work of a cycle (R105, the access of each cell; at most one). -/
def MicroOp.accesses (w : MicroOp) (s : State) : List BusAccess :=
  match w with
  | .latchLo => [.read s.pc s.fetchByte]
  | .latchHi => [.read s.pc s.fetchByte]
  | .load _ m => [.read (m.ea s) (s.byteAt (m.ea s))]
  | .store x m => [.write (m.ea s) (x.value s)]
  | .pushHi p => [.write s.sp (hi (s.getPair p))]
  | .pushLo p => [.write s.sp (lo (s.getPair p))]
  | .popLo _ => [.read s.sp (s.byteAt s.sp)]
  | .popHi _ => [.read s.sp (s.byteAt s.sp)]
  | .wait => []
  | .copy _ _ => []
  | .fromLatch _ => []
  | .pairFromLatches _ => []
  | .spFromLatches => []
  | .spFromHL => []
  | .spDec => []
  | .hlFromSp => []
  | .alu _ _ => []
  | .compare _ => []

/-- The cycle that is due, with the number of cycles still owed after it (R102): c0 in Boundary, c(L-n) in
InFlight(n) with 1 <= n <= L-1; none in Fault and out of that range. -/
def cycleDue (sched : List MicroOp) (seq : SeqState) : Option (MicroOp × Nat) :=
  match seq with
  | .fault _ _ => none
  | .boundary =>
    match sched with
    | [] => none
    | w :: rest => some (w, rest.length)
  | .inFlight n =>
    if n < sched.length then
      match sched.drop (sched.length - n) with
      | [] => none
      | w :: rest => some (w, rest.length)
    else none

/-- After the work: the overlapped fetch on the last cycle, else InFlight (R102, R103). -/
def finishCycle (owed : Nat) (s : State) : State :=
  match owed with
  | 0 => s.overlappedFetch
  | n + 1 => { s with seq := .inFlight (n + 1) }

/-- One tick of an instruction whose cycles are `sched` (R102). -/
def runCycles (sched : List MicroOp) (s : State) : Result :=
  match s.seq with
  | .fault _ _ => .next s
  | _ =>
    match cycleDue sched s.seq with
    | some (w, owed) => .next (finishCycle owed (w.run s))
    | none => .fault .cycleOutOfRange

/-- The memory accesses of that tick, in order: the work's, then on the last cycle the opcode fetch, which sees the
work's writes (R61). -/
def busOfCycles (sched : List MicroOp) (s : State) : List BusAccess :=
  match cycleDue sched s.seq with
  | none => []
  | some (w, 0) => w.accesses s ++ [.read (w.run s).pc (w.run s).fetchByte]
  | some (w, _ + 1) => w.accesses s

end Sys2Proof.Machine
end

