-- ==== Sys2Proof/Machine/Alu.lean ====
section
/-! DEFINITION. Meanings: 8-bit ALU register operations (45_alu8.md). For each form its cycles c0, c1, …
(R105), then one meaning for each instruction: one tick of it (R102). -/

namespace Sys2Proof.Machine

/-- The cycles of ADD, ADC, SUB, SBC, AND, XOR, OR A,r (R180 to R187). -/
def aluCycles (op : AluOp) (r : Reg8) : List MicroOp := [.alu op r]

/-- The cycles of CP A,r (R188). -/
def compareCycles (r : Reg8) : List MicroOp := [.compare r]

/-- ADD A,B (R181). -/
def execAddB (s : State) : Result := runCycles (aluCycles .add .b) s

/-- ADD A,C (R181). -/
def execAddC (s : State) : Result := runCycles (aluCycles .add .c) s

/-- ADD A,D (R181). -/
def execAddD (s : State) : Result := runCycles (aluCycles .add .d) s

/-- ADD A,E (R181). -/
def execAddE (s : State) : Result := runCycles (aluCycles .add .e) s

/-- ADD A,H (R181). -/
def execAddH (s : State) : Result := runCycles (aluCycles .add .h) s

/-- ADD A,L (R181). -/
def execAddL (s : State) : Result := runCycles (aluCycles .add .l) s

/-- ADD A,A (R181). -/
def execAddA (s : State) : Result := runCycles (aluCycles .add .a) s

/-- ADC A,B (R182). -/
def execAdcB (s : State) : Result := runCycles (aluCycles .adc .b) s

/-- ADC A,C (R182). -/
def execAdcC (s : State) : Result := runCycles (aluCycles .adc .c) s

/-- ADC A,D (R182). -/
def execAdcD (s : State) : Result := runCycles (aluCycles .adc .d) s

/-- ADC A,E (R182). -/
def execAdcE (s : State) : Result := runCycles (aluCycles .adc .e) s

/-- ADC A,H (R182). -/
def execAdcH (s : State) : Result := runCycles (aluCycles .adc .h) s

/-- ADC A,L (R182). -/
def execAdcL (s : State) : Result := runCycles (aluCycles .adc .l) s

/-- ADC A,A (R182). -/
def execAdcA (s : State) : Result := runCycles (aluCycles .adc .a) s

/-- SUB A,B (R183). -/
def execSubB (s : State) : Result := runCycles (aluCycles .sub .b) s

/-- SUB A,C (R183). -/
def execSubC (s : State) : Result := runCycles (aluCycles .sub .c) s

/-- SUB A,D (R183). -/
def execSubD (s : State) : Result := runCycles (aluCycles .sub .d) s

/-- SUB A,E (R183). -/
def execSubE (s : State) : Result := runCycles (aluCycles .sub .e) s

/-- SUB A,H (R183). -/
def execSubH (s : State) : Result := runCycles (aluCycles .sub .h) s

/-- SUB A,L (R183). -/
def execSubL (s : State) : Result := runCycles (aluCycles .sub .l) s

/-- SUB A,A (R183). -/
def execSubA (s : State) : Result := runCycles (aluCycles .sub .a) s

/-- SBC A,B (R184). -/
def execSbcB (s : State) : Result := runCycles (aluCycles .sbc .b) s

/-- SBC A,C (R184). -/
def execSbcC (s : State) : Result := runCycles (aluCycles .sbc .c) s

/-- SBC A,D (R184). -/
def execSbcD (s : State) : Result := runCycles (aluCycles .sbc .d) s

/-- SBC A,E (R184). -/
def execSbcE (s : State) : Result := runCycles (aluCycles .sbc .e) s

/-- SBC A,H (R184). -/
def execSbcH (s : State) : Result := runCycles (aluCycles .sbc .h) s

/-- SBC A,L (R184). -/
def execSbcL (s : State) : Result := runCycles (aluCycles .sbc .l) s

/-- SBC A,A (R184). -/
def execSbcA (s : State) : Result := runCycles (aluCycles .sbc .a) s

/-- AND A,B (R185). -/
def execAndB (s : State) : Result := runCycles (aluCycles .and .b) s

/-- AND A,C (R185). -/
def execAndC (s : State) : Result := runCycles (aluCycles .and .c) s

/-- AND A,D (R185). -/
def execAndD (s : State) : Result := runCycles (aluCycles .and .d) s

/-- AND A,E (R185). -/
def execAndE (s : State) : Result := runCycles (aluCycles .and .e) s

/-- AND A,H (R185). -/
def execAndH (s : State) : Result := runCycles (aluCycles .and .h) s

/-- AND A,L (R185). -/
def execAndL (s : State) : Result := runCycles (aluCycles .and .l) s

/-- AND A,A (R185). -/
def execAndA (s : State) : Result := runCycles (aluCycles .and .a) s

/-- XOR A,B (R186). -/
def execXorB (s : State) : Result := runCycles (aluCycles .xor .b) s

/-- XOR A,C (R186). -/
def execXorC (s : State) : Result := runCycles (aluCycles .xor .c) s

/-- XOR A,D (R186). -/
def execXorD (s : State) : Result := runCycles (aluCycles .xor .d) s

/-- XOR A,E (R186). -/
def execXorE (s : State) : Result := runCycles (aluCycles .xor .e) s

/-- XOR A,H (R186). -/
def execXorH (s : State) : Result := runCycles (aluCycles .xor .h) s

/-- XOR A,L (R186). -/
def execXorL (s : State) : Result := runCycles (aluCycles .xor .l) s

/-- XOR A,A (R186). -/
def execXorA (s : State) : Result := runCycles (aluCycles .xor .a) s

/-- OR A,B (R187). -/
def execOrB (s : State) : Result := runCycles (aluCycles .or .b) s

/-- OR A,C (R187). -/
def execOrC (s : State) : Result := runCycles (aluCycles .or .c) s

/-- OR A,D (R187). -/
def execOrD (s : State) : Result := runCycles (aluCycles .or .d) s

/-- OR A,E (R187). -/
def execOrE (s : State) : Result := runCycles (aluCycles .or .e) s

/-- OR A,H (R187). -/
def execOrH (s : State) : Result := runCycles (aluCycles .or .h) s

/-- OR A,L (R187). -/
def execOrL (s : State) : Result := runCycles (aluCycles .or .l) s

/-- OR A,A (R187). -/
def execOrA (s : State) : Result := runCycles (aluCycles .or .a) s

/-- CP A,B (R188). -/
def execCpB (s : State) : Result := runCycles (compareCycles .b) s

/-- CP A,C (R188). -/
def execCpC (s : State) : Result := runCycles (compareCycles .c) s

/-- CP A,D (R188). -/
def execCpD (s : State) : Result := runCycles (compareCycles .d) s

/-- CP A,E (R188). -/
def execCpE (s : State) : Result := runCycles (compareCycles .e) s

/-- CP A,H (R188). -/
def execCpH (s : State) : Result := runCycles (compareCycles .h) s

/-- CP A,L (R188). -/
def execCpL (s : State) : Result := runCycles (compareCycles .l) s

/-- CP A,A (R188). -/
def execCpA (s : State) : Result := runCycles (compareCycles .a) s

end Sys2Proof.Machine
end

