-- ==== Sys2Proof/Machine/Ld16Stack.lean ====
section
/-! DEFINITION. Meanings: 16-bit loads and the stack (44_ld16_stack.md). For each form its cycles c0, c1, …
(R105), then one meaning for each instruction: one tick of it (R102). -/

namespace Sys2Proof.Machine

/-- The cycles of LD rr,d16 (R160). -/
def ldPairImmCycles (p : Pair) : List MicroOp := [.latchLo, .latchHi, .pairFromLatches p]

/-- The cycles of LD SP,d16 (R161). -/
def ldSPImmCycles : List MicroOp := [.latchLo, .latchHi, .spFromLatches]

/-- The cycles of LD (a16),SP (R162). -/
def ldAbsSPCycles : List MicroOp := [.latchLo, .latchHi, .store .spLo .abs, .store .spHi .absNext, .wait]

/-- The cycles of LD SP,HL; the wait only if P_LD_SP_HL_CYCLES = 2 (R163). -/
def ldSPHLCycles (n : LdSpHlCycles) : List MicroOp :=
  match n with
  | .one => [.spFromHL]
  | .two => [.spFromHL, .wait]

/-- The cycles of PUSH rr (R164). -/
def pushCycles (p : Pair) : List MicroOp := [.spDec, .pushHi p, .pushLo p, .wait]

/-- The cycles of PUSH AF (R165). -/
def pushAFCycles : List MicroOp := [.spDec, .pushHi .af, .pushLo .af, .wait]

/-- The cycles of POP rr (R166). -/
def popCycles (p : Pair) : List MicroOp := [.popLo p, .popHi p, .wait]

/-- The cycles of POP AF (R167). -/
def popAFCycles : List MicroOp := [.popLo .af, .popHi .af, .wait]

/-- The cycles of LD HL,SP+r8 (R168). -/
def ldHLSPImmCycles : List MicroOp := [.latchLo, .hlFromSp, .wait]

/-- LD BC,d16 (R160). -/
def execLdPairBCImm (s : State) : Result := runCycles (ldPairImmCycles .bc) s

/-- LD (a16),SP (R162). -/
def execLdAbsSP (s : State) : Result := runCycles ldAbsSPCycles s

/-- LD DE,d16 (R160). -/
def execLdPairDEImm (s : State) : Result := runCycles (ldPairImmCycles .de) s

/-- LD HL,d16 (R160). -/
def execLdPairHLImm (s : State) : Result := runCycles (ldPairImmCycles .hl) s

/-- LD SP,d16 (R161). -/
def execLdSPImm (s : State) : Result := runCycles ldSPImmCycles s

/-- POP BC (R166). -/
def execPopBC (s : State) : Result := runCycles (popCycles .bc) s

/-- PUSH BC (R164). -/
def execPushBC (s : State) : Result := runCycles (pushCycles .bc) s

/-- POP DE (R166). -/
def execPopDE (s : State) : Result := runCycles (popCycles .de) s

/-- PUSH DE (R164). -/
def execPushDE (s : State) : Result := runCycles (pushCycles .de) s

/-- POP HL (R166). -/
def execPopHL (s : State) : Result := runCycles (popCycles .hl) s

/-- PUSH HL (R164). -/
def execPushHL (s : State) : Result := runCycles (pushCycles .hl) s

/-- POP AF (R167). -/
def execPopAF (s : State) : Result := runCycles popAFCycles s

/-- PUSH AF (R165). -/
def execPushAF (s : State) : Result := runCycles pushAFCycles s

/-- LD HL,SP+r8 (R168). -/
def execLdHLSPImm (s : State) : Result := runCycles ldHLSPImmCycles s

/-- LD SP,HL (R163). -/
def execLdSPHL (s : State) : Result := runCycles (ldSPHLCycles s.params.ldSpHlCycles) s

end Sys2Proof.Machine
end

