-- ==== Sys2Proof/Machine/LdA.lean ====
section
/-! DEFINITION. Meanings: accumulator loads and stores through BC, DE, the high page and absolute addresses (43_ld8_indirect_a.md). For each form its cycles c0, c1, …
(R105), then one meaning for each instruction: one tick of it (R102). -/

namespace Sys2Proof.Machine

/-- The cycles of LD A,(BC) (R140). -/
def ldABCCycles : List MicroOp := [.load .a .bc, .wait]

/-- The cycles of LD A,(DE) (R141). -/
def ldADECycles : List MicroOp := [.load .a .de, .wait]

/-- The cycles of LD (BC),A (R142). -/
def ldBCACycles : List MicroOp := [.store (.reg .a) .bc, .wait]

/-- The cycles of LD (DE),A (R143). -/
def ldDEACycles : List MicroOp := [.store (.reg .a) .de, .wait]

/-- The cycles of LD A,(C) (R144). -/
def ldACCycles : List MicroOp := [.load .a .highC, .wait]

/-- The cycles of LD (C),A (R145). -/
def ldCACycles : List MicroOp := [.store (.reg .a) .highC, .wait]

/-- The cycles of LDH A,(a8) (R146). -/
def ldhAImmCycles : List MicroOp := [.latchLo, .wait, .load .a .highImm]

/-- The cycles of LDH (a8),A (R147). -/
def ldhImmACycles : List MicroOp := [.latchLo, .wait, .store (.reg .a) .highImm]

/-- The cycles of LD A,(a16) (R148). -/
def ldAAbsCycles : List MicroOp := [.latchLo, .latchHi, .load .a .abs, .wait]

/-- The cycles of LD (a16),A (R149). -/
def ldAbsACycles : List MicroOp := [.latchLo, .latchHi, .store (.reg .a) .abs, .wait]

/-- LD (BC),A (R142). -/
def execLdIndBCA (s : State) : Result := runCycles ldBCACycles s

/-- LD A,(BC) (R140). -/
def execLdAIndBC (s : State) : Result := runCycles ldABCCycles s

/-- LD (DE),A (R143). -/
def execLdIndDEA (s : State) : Result := runCycles ldDEACycles s

/-- LD A,(DE) (R141). -/
def execLdAIndDE (s : State) : Result := runCycles ldADECycles s

/-- LDH (a8),A (R147). -/
def execLdhImmA (s : State) : Result := runCycles ldhImmACycles s

/-- LD (C),A (R145). -/
def execLdIndCA (s : State) : Result := runCycles ldCACycles s

/-- LD (a16),A (R149). -/
def execLdAbsA (s : State) : Result := runCycles ldAbsACycles s

/-- LDH A,(a8) (R146). -/
def execLdhAImm (s : State) : Result := runCycles ldhAImmCycles s

/-- LD A,(C) (R144). -/
def execLdAIndC (s : State) : Result := runCycles ldACCycles s

/-- LD A,(a16) (R148). -/
def execLdAAbs (s : State) : Result := runCycles ldAAbsCycles s

end Sys2Proof.Machine
end

