-- ==== Sys2Proof/Machine/LdHL.lean ====
section
/-! DEFINITION. Meanings: 8-bit loads and stores through HL (42_ld8_indirect_hl.md). For each form its cycles c0, c1, …
(R105), then one meaning for each instruction: one tick of it (R102). -/

namespace Sys2Proof.Machine

/-- The cycles of LD r,(HL) (R130). -/
def ldRegHLCycles (dst : Reg8) : List MicroOp := [.load dst .hl, .wait]

/-- The cycles of LD A,(HL+) (R131). -/
def ldAHLIncCycles : List MicroOp := [.load .a .hlInc, .wait]

/-- The cycles of LD A,(HL-) (R132). -/
def ldAHLDecCycles : List MicroOp := [.load .a .hlDec, .wait]

/-- The cycles of LD (HL),r (R133). -/
def ldHLRegCycles (r : Reg8) : List MicroOp := [.store (.reg r) .hl, .wait]

/-- The cycles of LD (HL+),A (R134). -/
def ldHLIncACycles : List MicroOp := [.store (.reg .a) .hlInc, .wait]

/-- The cycles of LD (HL-),A (R135). -/
def ldHLDecACycles : List MicroOp := [.store (.reg .a) .hlDec, .wait]

/-- The cycles of LD (HL),d8 (R136). -/
def ldHLImmCycles : List MicroOp := [.latchLo, .wait, .store .latch .hl]

/-- LD (HL+),A (R134). -/
def execLdIndHLIncA (s : State) : Result := runCycles ldHLIncACycles s

/-- LD A,(HL+) (R131). -/
def execLdAIndHLInc (s : State) : Result := runCycles ldAHLIncCycles s

/-- LD (HL-),A (R135). -/
def execLdIndHLDecA (s : State) : Result := runCycles ldHLDecACycles s

/-- LD (HL),d8 (R136). -/
def execLdIndHLImm (s : State) : Result := runCycles ldHLImmCycles s

/-- LD A,(HL-) (R132). -/
def execLdAIndHLDec (s : State) : Result := runCycles ldAHLDecCycles s

/-- LD B,(HL) (R130). -/
def execLdBIndHL (s : State) : Result := runCycles (ldRegHLCycles .b) s

/-- LD C,(HL) (R130). -/
def execLdCIndHL (s : State) : Result := runCycles (ldRegHLCycles .c) s

/-- LD D,(HL) (R130). -/
def execLdDIndHL (s : State) : Result := runCycles (ldRegHLCycles .d) s

/-- LD E,(HL) (R130). -/
def execLdEIndHL (s : State) : Result := runCycles (ldRegHLCycles .e) s

/-- LD H,(HL) (R130). -/
def execLdHIndHL (s : State) : Result := runCycles (ldRegHLCycles .h) s

/-- LD L,(HL) (R130). -/
def execLdLIndHL (s : State) : Result := runCycles (ldRegHLCycles .l) s

/-- LD (HL),B (R133). -/
def execLdIndHLB (s : State) : Result := runCycles (ldHLRegCycles .b) s

/-- LD (HL),C (R133). -/
def execLdIndHLC (s : State) : Result := runCycles (ldHLRegCycles .c) s

/-- LD (HL),D (R133). -/
def execLdIndHLD (s : State) : Result := runCycles (ldHLRegCycles .d) s

/-- LD (HL),E (R133). -/
def execLdIndHLE (s : State) : Result := runCycles (ldHLRegCycles .e) s

/-- LD (HL),H (R133). -/
def execLdIndHLH (s : State) : Result := runCycles (ldHLRegCycles .h) s

/-- LD (HL),L (R133). -/
def execLdIndHLL (s : State) : Result := runCycles (ldHLRegCycles .l) s

/-- LD (HL),A (R133). -/
def execLdIndHLA (s : State) : Result := runCycles (ldHLRegCycles .a) s

/-- LD A,(HL) (R130). -/
def execLdAIndHL (s : State) : Result := runCycles (ldRegHLCycles .a) s

end Sys2Proof.Machine
end

