-- ==== Sys2Proof/Machine/NopLd8.lean ====
section
/-! DEFINITION. Meanings: NOP and the 8-bit register and immediate loads (41_nop_ld8_register.md). For each form its cycles c0, c1, …
(R105), then one meaning for each instruction: one tick of it (R102). -/

namespace Sys2Proof.Machine

/-- The cycles of NOP (R120). -/
def nopCycles : List MicroOp := [.wait]

/-- The cycles of LD r,r' (R121). -/
def ldRegRegCycles (dst src : Reg8) : List MicroOp := [.copy dst src]

/-- The cycles of LD r,d8 (R122). -/
def ldRegImmCycles (dst : Reg8) : List MicroOp := [.latchLo, .fromLatch dst]

/-- NOP (R120). -/
def execNop (s : State) : Result := runCycles nopCycles s

/-- LD B,d8 (R122). -/
def execLdBImm (s : State) : Result := runCycles (ldRegImmCycles .b) s

/-- LD C,d8 (R122). -/
def execLdCImm (s : State) : Result := runCycles (ldRegImmCycles .c) s

/-- LD D,d8 (R122). -/
def execLdDImm (s : State) : Result := runCycles (ldRegImmCycles .d) s

/-- LD E,d8 (R122). -/
def execLdEImm (s : State) : Result := runCycles (ldRegImmCycles .e) s

/-- LD H,d8 (R122). -/
def execLdHImm (s : State) : Result := runCycles (ldRegImmCycles .h) s

/-- LD L,d8 (R122). -/
def execLdLImm (s : State) : Result := runCycles (ldRegImmCycles .l) s

/-- LD A,d8 (R122). -/
def execLdAImm (s : State) : Result := runCycles (ldRegImmCycles .a) s

/-- LD B,B (R121). -/
def execLdBB (s : State) : Result := runCycles (ldRegRegCycles .b .b) s

/-- LD B,C (R121). -/
def execLdBC (s : State) : Result := runCycles (ldRegRegCycles .b .c) s

/-- LD B,D (R121). -/
def execLdBD (s : State) : Result := runCycles (ldRegRegCycles .b .d) s

/-- LD B,E (R121). -/
def execLdBE (s : State) : Result := runCycles (ldRegRegCycles .b .e) s

/-- LD B,H (R121). -/
def execLdBH (s : State) : Result := runCycles (ldRegRegCycles .b .h) s

/-- LD B,L (R121). -/
def execLdBL (s : State) : Result := runCycles (ldRegRegCycles .b .l) s

/-- LD B,A (R121). -/
def execLdBA (s : State) : Result := runCycles (ldRegRegCycles .b .a) s

/-- LD C,B (R121). -/
def execLdCB (s : State) : Result := runCycles (ldRegRegCycles .c .b) s

/-- LD C,C (R121). -/
def execLdCC (s : State) : Result := runCycles (ldRegRegCycles .c .c) s

/-- LD C,D (R121). -/
def execLdCD (s : State) : Result := runCycles (ldRegRegCycles .c .d) s

/-- LD C,E (R121). -/
def execLdCE (s : State) : Result := runCycles (ldRegRegCycles .c .e) s

/-- LD C,H (R121). -/
def execLdCH (s : State) : Result := runCycles (ldRegRegCycles .c .h) s

/-- LD C,L (R121). -/
def execLdCL (s : State) : Result := runCycles (ldRegRegCycles .c .l) s

/-- LD C,A (R121). -/
def execLdCA (s : State) : Result := runCycles (ldRegRegCycles .c .a) s

/-- LD D,B (R121). -/
def execLdDB (s : State) : Result := runCycles (ldRegRegCycles .d .b) s

/-- LD D,C (R121). -/
def execLdDC (s : State) : Result := runCycles (ldRegRegCycles .d .c) s

/-- LD D,D (R121). -/
def execLdDD (s : State) : Result := runCycles (ldRegRegCycles .d .d) s

/-- LD D,E (R121). -/
def execLdDE (s : State) : Result := runCycles (ldRegRegCycles .d .e) s

/-- LD D,H (R121). -/
def execLdDH (s : State) : Result := runCycles (ldRegRegCycles .d .h) s

/-- LD D,L (R121). -/
def execLdDL (s : State) : Result := runCycles (ldRegRegCycles .d .l) s

/-- LD D,A (R121). -/
def execLdDA (s : State) : Result := runCycles (ldRegRegCycles .d .a) s

/-- LD E,B (R121). -/
def execLdEB (s : State) : Result := runCycles (ldRegRegCycles .e .b) s

/-- LD E,C (R121). -/
def execLdEC (s : State) : Result := runCycles (ldRegRegCycles .e .c) s

/-- LD E,D (R121). -/
def execLdED (s : State) : Result := runCycles (ldRegRegCycles .e .d) s

/-- LD E,E (R121). -/
def execLdEE (s : State) : Result := runCycles (ldRegRegCycles .e .e) s

/-- LD E,H (R121). -/
def execLdEH (s : State) : Result := runCycles (ldRegRegCycles .e .h) s

/-- LD E,L (R121). -/
def execLdEL (s : State) : Result := runCycles (ldRegRegCycles .e .l) s

/-- LD E,A (R121). -/
def execLdEA (s : State) : Result := runCycles (ldRegRegCycles .e .a) s

/-- LD H,B (R121). -/
def execLdHB (s : State) : Result := runCycles (ldRegRegCycles .h .b) s

/-- LD H,C (R121). -/
def execLdHC (s : State) : Result := runCycles (ldRegRegCycles .h .c) s

/-- LD H,D (R121). -/
def execLdHD (s : State) : Result := runCycles (ldRegRegCycles .h .d) s

/-- LD H,E (R121). -/
def execLdHE (s : State) : Result := runCycles (ldRegRegCycles .h .e) s

/-- LD H,H (R121). -/
def execLdHH (s : State) : Result := runCycles (ldRegRegCycles .h .h) s

/-- LD H,L (R121). -/
def execLdHL (s : State) : Result := runCycles (ldRegRegCycles .h .l) s

/-- LD H,A (R121). -/
def execLdHA (s : State) : Result := runCycles (ldRegRegCycles .h .a) s

/-- LD L,B (R121). -/
def execLdLB (s : State) : Result := runCycles (ldRegRegCycles .l .b) s

/-- LD L,C (R121). -/
def execLdLC (s : State) : Result := runCycles (ldRegRegCycles .l .c) s

/-- LD L,D (R121). -/
def execLdLD (s : State) : Result := runCycles (ldRegRegCycles .l .d) s

/-- LD L,E (R121). -/
def execLdLE (s : State) : Result := runCycles (ldRegRegCycles .l .e) s

/-- LD L,H (R121). -/
def execLdLH (s : State) : Result := runCycles (ldRegRegCycles .l .h) s

/-- LD L,L (R121). -/
def execLdLL (s : State) : Result := runCycles (ldRegRegCycles .l .l) s

/-- LD L,A (R121). -/
def execLdLA (s : State) : Result := runCycles (ldRegRegCycles .l .a) s

/-- LD A,B (R121). -/
def execLdAB (s : State) : Result := runCycles (ldRegRegCycles .a .b) s

/-- LD A,C (R121). -/
def execLdAC (s : State) : Result := runCycles (ldRegRegCycles .a .c) s

/-- LD A,D (R121). -/
def execLdAD (s : State) : Result := runCycles (ldRegRegCycles .a .d) s

/-- LD A,E (R121). -/
def execLdAE (s : State) : Result := runCycles (ldRegRegCycles .a .e) s

/-- LD A,H (R121). -/
def execLdAH (s : State) : Result := runCycles (ldRegRegCycles .a .h) s

/-- LD A,L (R121). -/
def execLdAL (s : State) : Result := runCycles (ldRegRegCycles .a .l) s

/-- LD A,A (R121). -/
def execLdAA (s : State) : Result := runCycles (ldRegRegCycles .a .a) s

end Sys2Proof.Machine
end

