-- ==== Sys2Proof/Machine/Unimplemented.lean ====
section
/-! DEFINITION. Meanings of the 99 unimplemented opcodes (R85): each takes the exception of R200, R201 (log 8). -/

namespace Sys2Proof.Machine

/-- Opcode 03 is unimplemented (R85, R200). -/
def execUnimpl03 (s : State) : Result := takeUnimplemented s

/-- Opcode 04 is unimplemented (R85, R200). -/
def execUnimpl04 (s : State) : Result := takeUnimplemented s

/-- Opcode 05 is unimplemented (R85, R200). -/
def execUnimpl05 (s : State) : Result := takeUnimplemented s

/-- Opcode 07 is unimplemented (R85, R200). -/
def execUnimpl07 (s : State) : Result := takeUnimplemented s

/-- Opcode 09 is unimplemented (R85, R200). -/
def execUnimpl09 (s : State) : Result := takeUnimplemented s

/-- Opcode 0B is unimplemented (R85, R200). -/
def execUnimpl0B (s : State) : Result := takeUnimplemented s

/-- Opcode 0C is unimplemented (R85, R200). -/
def execUnimpl0C (s : State) : Result := takeUnimplemented s

/-- Opcode 0D is unimplemented (R85, R200). -/
def execUnimpl0D (s : State) : Result := takeUnimplemented s

/-- Opcode 0F is unimplemented (R85, R200). -/
def execUnimpl0F (s : State) : Result := takeUnimplemented s

/-- Opcode 10 is unimplemented (R85, R200). -/
def execUnimpl10 (s : State) : Result := takeUnimplemented s

/-- Opcode 13 is unimplemented (R85, R200). -/
def execUnimpl13 (s : State) : Result := takeUnimplemented s

/-- Opcode 14 is unimplemented (R85, R200). -/
def execUnimpl14 (s : State) : Result := takeUnimplemented s

/-- Opcode 15 is unimplemented (R85, R200). -/
def execUnimpl15 (s : State) : Result := takeUnimplemented s

/-- Opcode 17 is unimplemented (R85, R200). -/
def execUnimpl17 (s : State) : Result := takeUnimplemented s

/-- Opcode 18 is unimplemented (R85, R200). -/
def execUnimpl18 (s : State) : Result := takeUnimplemented s

/-- Opcode 19 is unimplemented (R85, R200). -/
def execUnimpl19 (s : State) : Result := takeUnimplemented s

/-- Opcode 1B is unimplemented (R85, R200). -/
def execUnimpl1B (s : State) : Result := takeUnimplemented s

/-- Opcode 1C is unimplemented (R85, R200). -/
def execUnimpl1C (s : State) : Result := takeUnimplemented s

/-- Opcode 1D is unimplemented (R85, R200). -/
def execUnimpl1D (s : State) : Result := takeUnimplemented s

/-- Opcode 1F is unimplemented (R85, R200). -/
def execUnimpl1F (s : State) : Result := takeUnimplemented s

/-- Opcode 20 is unimplemented (R85, R200). -/
def execUnimpl20 (s : State) : Result := takeUnimplemented s

/-- Opcode 23 is unimplemented (R85, R200). -/
def execUnimpl23 (s : State) : Result := takeUnimplemented s

/-- Opcode 24 is unimplemented (R85, R200). -/
def execUnimpl24 (s : State) : Result := takeUnimplemented s

/-- Opcode 25 is unimplemented (R85, R200). -/
def execUnimpl25 (s : State) : Result := takeUnimplemented s

/-- Opcode 27 is unimplemented (R85, R200). -/
def execUnimpl27 (s : State) : Result := takeUnimplemented s

/-- Opcode 28 is unimplemented (R85, R200). -/
def execUnimpl28 (s : State) : Result := takeUnimplemented s

/-- Opcode 29 is unimplemented (R85, R200). -/
def execUnimpl29 (s : State) : Result := takeUnimplemented s

/-- Opcode 2B is unimplemented (R85, R200). -/
def execUnimpl2B (s : State) : Result := takeUnimplemented s

/-- Opcode 2C is unimplemented (R85, R200). -/
def execUnimpl2C (s : State) : Result := takeUnimplemented s

/-- Opcode 2D is unimplemented (R85, R200). -/
def execUnimpl2D (s : State) : Result := takeUnimplemented s

/-- Opcode 2F is unimplemented (R85, R200). -/
def execUnimpl2F (s : State) : Result := takeUnimplemented s

/-- Opcode 30 is unimplemented (R85, R200). -/
def execUnimpl30 (s : State) : Result := takeUnimplemented s

/-- Opcode 33 is unimplemented (R85, R200). -/
def execUnimpl33 (s : State) : Result := takeUnimplemented s

/-- Opcode 34 is unimplemented (R85, R200). -/
def execUnimpl34 (s : State) : Result := takeUnimplemented s

/-- Opcode 35 is unimplemented (R85, R200). -/
def execUnimpl35 (s : State) : Result := takeUnimplemented s

/-- Opcode 37 is unimplemented (R85, R200). -/
def execUnimpl37 (s : State) : Result := takeUnimplemented s

/-- Opcode 38 is unimplemented (R85, R200). -/
def execUnimpl38 (s : State) : Result := takeUnimplemented s

/-- Opcode 39 is unimplemented (R85, R200). -/
def execUnimpl39 (s : State) : Result := takeUnimplemented s

/-- Opcode 3B is unimplemented (R85, R200). -/
def execUnimpl3B (s : State) : Result := takeUnimplemented s

/-- Opcode 3C is unimplemented (R85, R200). -/
def execUnimpl3C (s : State) : Result := takeUnimplemented s

/-- Opcode 3D is unimplemented (R85, R200). -/
def execUnimpl3D (s : State) : Result := takeUnimplemented s

/-- Opcode 3F is unimplemented (R85, R200). -/
def execUnimpl3F (s : State) : Result := takeUnimplemented s

/-- Opcode 76 is unimplemented (R85, R200). -/
def execUnimpl76 (s : State) : Result := takeUnimplemented s

/-- Opcode 86 is unimplemented (R85, R200). -/
def execUnimpl86 (s : State) : Result := takeUnimplemented s

/-- Opcode 8E is unimplemented (R85, R200). -/
def execUnimpl8E (s : State) : Result := takeUnimplemented s

/-- Opcode 96 is unimplemented (R85, R200). -/
def execUnimpl96 (s : State) : Result := takeUnimplemented s

/-- Opcode 9E is unimplemented (R85, R200). -/
def execUnimpl9E (s : State) : Result := takeUnimplemented s

/-- Opcode A6 is unimplemented (R85, R200). -/
def execUnimplA6 (s : State) : Result := takeUnimplemented s

/-- Opcode AE is unimplemented (R85, R200). -/
def execUnimplAE (s : State) : Result := takeUnimplemented s

/-- Opcode B6 is unimplemented (R85, R200). -/
def execUnimplB6 (s : State) : Result := takeUnimplemented s

/-- Opcode BE is unimplemented (R85, R200). -/
def execUnimplBE (s : State) : Result := takeUnimplemented s

/-- Opcode C0 is unimplemented (R85, R200). -/
def execUnimplC0 (s : State) : Result := takeUnimplemented s

/-- Opcode C2 is unimplemented (R85, R200). -/
def execUnimplC2 (s : State) : Result := takeUnimplemented s

/-- Opcode C3 is unimplemented (R85, R200). -/
def execUnimplC3 (s : State) : Result := takeUnimplemented s

/-- Opcode C4 is unimplemented (R85, R200). -/
def execUnimplC4 (s : State) : Result := takeUnimplemented s

/-- Opcode C6 is unimplemented (R85, R200). -/
def execUnimplC6 (s : State) : Result := takeUnimplemented s

/-- Opcode C7 is unimplemented (R85, R200). -/
def execUnimplC7 (s : State) : Result := takeUnimplemented s

/-- Opcode C8 is unimplemented (R85, R200). -/
def execUnimplC8 (s : State) : Result := takeUnimplemented s

/-- Opcode C9 is unimplemented (R85, R200). -/
def execUnimplC9 (s : State) : Result := takeUnimplemented s

/-- Opcode CA is unimplemented (R85, R200). -/
def execUnimplCA (s : State) : Result := takeUnimplemented s

/-- Opcode CB is unimplemented (R85, R200). -/
def execUnimplCB (s : State) : Result := takeUnimplemented s

/-- Opcode CC is unimplemented (R85, R200). -/
def execUnimplCC (s : State) : Result := takeUnimplemented s

/-- Opcode CD is unimplemented (R85, R200). -/
def execUnimplCD (s : State) : Result := takeUnimplemented s

/-- Opcode CE is unimplemented (R85, R200). -/
def execUnimplCE (s : State) : Result := takeUnimplemented s

/-- Opcode CF is unimplemented (R85, R200). -/
def execUnimplCF (s : State) : Result := takeUnimplemented s

/-- Opcode D0 is unimplemented (R85, R200). -/
def execUnimplD0 (s : State) : Result := takeUnimplemented s

/-- Opcode D2 is unimplemented (R85, R200). -/
def execUnimplD2 (s : State) : Result := takeUnimplemented s

/-- Opcode D3 is unimplemented (R85, R200). -/
def execUnimplD3 (s : State) : Result := takeUnimplemented s

/-- Opcode D4 is unimplemented (R85, R200). -/
def execUnimplD4 (s : State) : Result := takeUnimplemented s

/-- Opcode D6 is unimplemented (R85, R200). -/
def execUnimplD6 (s : State) : Result := takeUnimplemented s

/-- Opcode D7 is unimplemented (R85, R200). -/
def execUnimplD7 (s : State) : Result := takeUnimplemented s

/-- Opcode D8 is unimplemented (R85, R200). -/
def execUnimplD8 (s : State) : Result := takeUnimplemented s

/-- Opcode D9 is unimplemented (R85, R200). -/
def execUnimplD9 (s : State) : Result := takeUnimplemented s

/-- Opcode DA is unimplemented (R85, R200). -/
def execUnimplDA (s : State) : Result := takeUnimplemented s

/-- Opcode DB is unimplemented (R85, R200). -/
def execUnimplDB (s : State) : Result := takeUnimplemented s

/-- Opcode DC is unimplemented (R85, R200). -/
def execUnimplDC (s : State) : Result := takeUnimplemented s

/-- Opcode DD is unimplemented (R85, R200). -/
def execUnimplDD (s : State) : Result := takeUnimplemented s

/-- Opcode DE is unimplemented (R85, R200). -/
def execUnimplDE (s : State) : Result := takeUnimplemented s

/-- Opcode DF is unimplemented (R85, R200). -/
def execUnimplDF (s : State) : Result := takeUnimplemented s

/-- Opcode E3 is unimplemented (R85, R200). -/
def execUnimplE3 (s : State) : Result := takeUnimplemented s

/-- Opcode E4 is unimplemented (R85, R200). -/
def execUnimplE4 (s : State) : Result := takeUnimplemented s

/-- Opcode E6 is unimplemented (R85, R200). -/
def execUnimplE6 (s : State) : Result := takeUnimplemented s

/-- Opcode E7 is unimplemented (R85, R200). -/
def execUnimplE7 (s : State) : Result := takeUnimplemented s

/-- Opcode E8 is unimplemented (R85, R200). -/
def execUnimplE8 (s : State) : Result := takeUnimplemented s

/-- Opcode E9 is unimplemented (R85, R200). -/
def execUnimplE9 (s : State) : Result := takeUnimplemented s

/-- Opcode EB is unimplemented (R85, R200). -/
def execUnimplEB (s : State) : Result := takeUnimplemented s

/-- Opcode EC is unimplemented (R85, R200). -/
def execUnimplEC (s : State) : Result := takeUnimplemented s

/-- Opcode ED is unimplemented (R85, R200). -/
def execUnimplED (s : State) : Result := takeUnimplemented s

/-- Opcode EE is unimplemented (R85, R200). -/
def execUnimplEE (s : State) : Result := takeUnimplemented s

/-- Opcode EF is unimplemented (R85, R200). -/
def execUnimplEF (s : State) : Result := takeUnimplemented s

/-- Opcode F3 is unimplemented (R85, R200). -/
def execUnimplF3 (s : State) : Result := takeUnimplemented s

/-- Opcode F4 is unimplemented (R85, R200). -/
def execUnimplF4 (s : State) : Result := takeUnimplemented s

/-- Opcode F6 is unimplemented (R85, R200). -/
def execUnimplF6 (s : State) : Result := takeUnimplemented s

/-- Opcode F7 is unimplemented (R85, R200). -/
def execUnimplF7 (s : State) : Result := takeUnimplemented s

/-- Opcode FB is unimplemented (R85, R200). -/
def execUnimplFB (s : State) : Result := takeUnimplemented s

/-- Opcode FC is unimplemented (R85, R200). -/
def execUnimplFC (s : State) : Result := takeUnimplemented s

/-- Opcode FD is unimplemented (R85, R200). -/
def execUnimplFD (s : State) : Result := takeUnimplemented s

/-- Opcode FE is unimplemented (R85, R200). -/
def execUnimplFE (s : State) : Result := takeUnimplemented s

/-- Opcode FF is unimplemented (R85, R200). -/
def execUnimplFF (s : State) : Result := takeUnimplemented s

end Sys2Proof.Machine
end

