-- ==== Sys2Proof/Machine/Dispatch.lean ====
section
/-! DEFINITION. One tick of each instruction. -/

namespace Sys2Proof.Machine

def exec (i : Instr) (s : State) : Host.Outcome State Fault Refusal :=
  match i with
  | .nop => Sys2Proof.Machine.execNop s
  | .ldPairBCImm => Sys2Proof.Machine.execLdPairBCImm s
  | .ldIndBCA => Sys2Proof.Machine.execLdIndBCA s
  | .unimpl03 => Sys2Proof.Machine.execUnimpl03 s
  | .unimpl04 => Sys2Proof.Machine.execUnimpl04 s
  | .unimpl05 => Sys2Proof.Machine.execUnimpl05 s
  | .ldBImm => Sys2Proof.Machine.execLdBImm s
  | .unimpl07 => Sys2Proof.Machine.execUnimpl07 s
  | .ldAbsSP => Sys2Proof.Machine.execLdAbsSP s
  | .unimpl09 => Sys2Proof.Machine.execUnimpl09 s
  | .ldAIndBC => Sys2Proof.Machine.execLdAIndBC s
  | .unimpl0B => Sys2Proof.Machine.execUnimpl0B s
  | .unimpl0C => Sys2Proof.Machine.execUnimpl0C s
  | .unimpl0D => Sys2Proof.Machine.execUnimpl0D s
  | .ldCImm => Sys2Proof.Machine.execLdCImm s
  | .unimpl0F => Sys2Proof.Machine.execUnimpl0F s
  | .unimpl10 => Sys2Proof.Machine.execUnimpl10 s
  | .ldPairDEImm => Sys2Proof.Machine.execLdPairDEImm s
  | .ldIndDEA => Sys2Proof.Machine.execLdIndDEA s
  | .unimpl13 => Sys2Proof.Machine.execUnimpl13 s
  | .unimpl14 => Sys2Proof.Machine.execUnimpl14 s
  | .unimpl15 => Sys2Proof.Machine.execUnimpl15 s
  | .ldDImm => Sys2Proof.Machine.execLdDImm s
  | .unimpl17 => Sys2Proof.Machine.execUnimpl17 s
  | .unimpl18 => Sys2Proof.Machine.execUnimpl18 s
  | .unimpl19 => Sys2Proof.Machine.execUnimpl19 s
  | .ldAIndDE => Sys2Proof.Machine.execLdAIndDE s
  | .unimpl1B => Sys2Proof.Machine.execUnimpl1B s
  | .unimpl1C => Sys2Proof.Machine.execUnimpl1C s
  | .unimpl1D => Sys2Proof.Machine.execUnimpl1D s
  | .ldEImm => Sys2Proof.Machine.execLdEImm s
  | .unimpl1F => Sys2Proof.Machine.execUnimpl1F s
  | .unimpl20 => Sys2Proof.Machine.execUnimpl20 s
  | .ldPairHLImm => Sys2Proof.Machine.execLdPairHLImm s
  | .ldIndHLIncA => Sys2Proof.Machine.execLdIndHLIncA s
  | .unimpl23 => Sys2Proof.Machine.execUnimpl23 s
  | .unimpl24 => Sys2Proof.Machine.execUnimpl24 s
  | .unimpl25 => Sys2Proof.Machine.execUnimpl25 s
  | .ldHImm => Sys2Proof.Machine.execLdHImm s
  | .unimpl27 => Sys2Proof.Machine.execUnimpl27 s
  | .unimpl28 => Sys2Proof.Machine.execUnimpl28 s
  | .unimpl29 => Sys2Proof.Machine.execUnimpl29 s
  | .ldAIndHLInc => Sys2Proof.Machine.execLdAIndHLInc s
  | .unimpl2B => Sys2Proof.Machine.execUnimpl2B s
  | .unimpl2C => Sys2Proof.Machine.execUnimpl2C s
  | .unimpl2D => Sys2Proof.Machine.execUnimpl2D s
  | .ldLImm => Sys2Proof.Machine.execLdLImm s
  | .unimpl2F => Sys2Proof.Machine.execUnimpl2F s
  | .unimpl30 => Sys2Proof.Machine.execUnimpl30 s
  | .ldSPImm => Sys2Proof.Machine.execLdSPImm s
  | .ldIndHLDecA => Sys2Proof.Machine.execLdIndHLDecA s
  | .unimpl33 => Sys2Proof.Machine.execUnimpl33 s
  | .unimpl34 => Sys2Proof.Machine.execUnimpl34 s
  | .unimpl35 => Sys2Proof.Machine.execUnimpl35 s
  | .ldIndHLImm => Sys2Proof.Machine.execLdIndHLImm s
  | .unimpl37 => Sys2Proof.Machine.execUnimpl37 s
  | .unimpl38 => Sys2Proof.Machine.execUnimpl38 s
  | .unimpl39 => Sys2Proof.Machine.execUnimpl39 s
  | .ldAIndHLDec => Sys2Proof.Machine.execLdAIndHLDec s
  | .unimpl3B => Sys2Proof.Machine.execUnimpl3B s
  | .unimpl3C => Sys2Proof.Machine.execUnimpl3C s
  | .unimpl3D => Sys2Proof.Machine.execUnimpl3D s
  | .ldAImm => Sys2Proof.Machine.execLdAImm s
  | .unimpl3F => Sys2Proof.Machine.execUnimpl3F s
  | .ldBB => Sys2Proof.Machine.execLdBB s
  | .ldBC => Sys2Proof.Machine.execLdBC s
  | .ldBD => Sys2Proof.Machine.execLdBD s
  | .ldBE => Sys2Proof.Machine.execLdBE s
  | .ldBH => Sys2Proof.Machine.execLdBH s
  | .ldBL => Sys2Proof.Machine.execLdBL s
  | .ldBIndHL => Sys2Proof.Machine.execLdBIndHL s
  | .ldBA => Sys2Proof.Machine.execLdBA s
  | .ldCB => Sys2Proof.Machine.execLdCB s
  | .ldCC => Sys2Proof.Machine.execLdCC s
  | .ldCD => Sys2Proof.Machine.execLdCD s
  | .ldCE => Sys2Proof.Machine.execLdCE s
  | .ldCH => Sys2Proof.Machine.execLdCH s
  | .ldCL => Sys2Proof.Machine.execLdCL s
  | .ldCIndHL => Sys2Proof.Machine.execLdCIndHL s
  | .ldCA => Sys2Proof.Machine.execLdCA s
  | .ldDB => Sys2Proof.Machine.execLdDB s
  | .ldDC => Sys2Proof.Machine.execLdDC s
  | .ldDD => Sys2Proof.Machine.execLdDD s
  | .ldDE => Sys2Proof.Machine.execLdDE s
  | .ldDH => Sys2Proof.Machine.execLdDH s
  | .ldDL => Sys2Proof.Machine.execLdDL s
  | .ldDIndHL => Sys2Proof.Machine.execLdDIndHL s
  | .ldDA => Sys2Proof.Machine.execLdDA s
  | .ldEB => Sys2Proof.Machine.execLdEB s
  | .ldEC => Sys2Proof.Machine.execLdEC s
  | .ldED => Sys2Proof.Machine.execLdED s
  | .ldEE => Sys2Proof.Machine.execLdEE s
  | .ldEH => Sys2Proof.Machine.execLdEH s
  | .ldEL => Sys2Proof.Machine.execLdEL s
  | .ldEIndHL => Sys2Proof.Machine.execLdEIndHL s
  | .ldEA => Sys2Proof.Machine.execLdEA s
  | .ldHB => Sys2Proof.Machine.execLdHB s
  | .ldHC => Sys2Proof.Machine.execLdHC s
  | .ldHD => Sys2Proof.Machine.execLdHD s
  | .ldHE => Sys2Proof.Machine.execLdHE s
  | .ldHH => Sys2Proof.Machine.execLdHH s
  | .ldHL => Sys2Proof.Machine.execLdHL s
  | .ldHIndHL => Sys2Proof.Machine.execLdHIndHL s
  | .ldHA => Sys2Proof.Machine.execLdHA s
  | .ldLB => Sys2Proof.Machine.execLdLB s
  | .ldLC => Sys2Proof.Machine.execLdLC s
  | .ldLD => Sys2Proof.Machine.execLdLD s
  | .ldLE => Sys2Proof.Machine.execLdLE s
  | .ldLH => Sys2Proof.Machine.execLdLH s
  | .ldLL => Sys2Proof.Machine.execLdLL s
  | .ldLIndHL => Sys2Proof.Machine.execLdLIndHL s
  | .ldLA => Sys2Proof.Machine.execLdLA s
  | .ldIndHLB => Sys2Proof.Machine.execLdIndHLB s
  | .ldIndHLC => Sys2Proof.Machine.execLdIndHLC s
  | .ldIndHLD => Sys2Proof.Machine.execLdIndHLD s
  | .ldIndHLE => Sys2Proof.Machine.execLdIndHLE s
  | .ldIndHLH => Sys2Proof.Machine.execLdIndHLH s
  | .ldIndHLL => Sys2Proof.Machine.execLdIndHLL s
  | .unimpl76 => Sys2Proof.Machine.execUnimpl76 s
  | .ldIndHLA => Sys2Proof.Machine.execLdIndHLA s
  | .ldAB => Sys2Proof.Machine.execLdAB s
  | .ldAC => Sys2Proof.Machine.execLdAC s
  | .ldAD => Sys2Proof.Machine.execLdAD s
  | .ldAE => Sys2Proof.Machine.execLdAE s
  | .ldAH => Sys2Proof.Machine.execLdAH s
  | .ldAL => Sys2Proof.Machine.execLdAL s
  | .ldAIndHL => Sys2Proof.Machine.execLdAIndHL s
  | .ldAA => Sys2Proof.Machine.execLdAA s
  | .addB => Sys2Proof.Machine.execAddB s
  | .addC => Sys2Proof.Machine.execAddC s
  | .addD => Sys2Proof.Machine.execAddD s
  | .addE => Sys2Proof.Machine.execAddE s
  | .addH => Sys2Proof.Machine.execAddH s
  | .addL => Sys2Proof.Machine.execAddL s
  | .unimpl86 => Sys2Proof.Machine.execUnimpl86 s
  | .addA => Sys2Proof.Machine.execAddA s
  | .adcB => Sys2Proof.Machine.execAdcB s
  | .adcC => Sys2Proof.Machine.execAdcC s
  | .adcD => Sys2Proof.Machine.execAdcD s
  | .adcE => Sys2Proof.Machine.execAdcE s
  | .adcH => Sys2Proof.Machine.execAdcH s
  | .adcL => Sys2Proof.Machine.execAdcL s
  | .unimpl8E => Sys2Proof.Machine.execUnimpl8E s
  | .adcA => Sys2Proof.Machine.execAdcA s
  | .subB => Sys2Proof.Machine.execSubB s
  | .subC => Sys2Proof.Machine.execSubC s
  | .subD => Sys2Proof.Machine.execSubD s
  | .subE => Sys2Proof.Machine.execSubE s
  | .subH => Sys2Proof.Machine.execSubH s
  | .subL => Sys2Proof.Machine.execSubL s
  | .unimpl96 => Sys2Proof.Machine.execUnimpl96 s
  | .subA => Sys2Proof.Machine.execSubA s
  | .sbcB => Sys2Proof.Machine.execSbcB s
  | .sbcC => Sys2Proof.Machine.execSbcC s
  | .sbcD => Sys2Proof.Machine.execSbcD s
  | .sbcE => Sys2Proof.Machine.execSbcE s
  | .sbcH => Sys2Proof.Machine.execSbcH s
  | .sbcL => Sys2Proof.Machine.execSbcL s
  | .unimpl9E => Sys2Proof.Machine.execUnimpl9E s
  | .sbcA => Sys2Proof.Machine.execSbcA s
  | .andB => Sys2Proof.Machine.execAndB s
  | .andC => Sys2Proof.Machine.execAndC s
  | .andD => Sys2Proof.Machine.execAndD s
  | .andE => Sys2Proof.Machine.execAndE s
  | .andH => Sys2Proof.Machine.execAndH s
  | .andL => Sys2Proof.Machine.execAndL s
  | .unimplA6 => Sys2Proof.Machine.execUnimplA6 s
  | .andA => Sys2Proof.Machine.execAndA s
  | .xorB => Sys2Proof.Machine.execXorB s
  | .xorC => Sys2Proof.Machine.execXorC s
  | .xorD => Sys2Proof.Machine.execXorD s
  | .xorE => Sys2Proof.Machine.execXorE s
  | .xorH => Sys2Proof.Machine.execXorH s
  | .xorL => Sys2Proof.Machine.execXorL s
  | .unimplAE => Sys2Proof.Machine.execUnimplAE s
  | .xorA => Sys2Proof.Machine.execXorA s
  | .orB => Sys2Proof.Machine.execOrB s
  | .orC => Sys2Proof.Machine.execOrC s
  | .orD => Sys2Proof.Machine.execOrD s
  | .orE => Sys2Proof.Machine.execOrE s
  | .orH => Sys2Proof.Machine.execOrH s
  | .orL => Sys2Proof.Machine.execOrL s
  | .unimplB6 => Sys2Proof.Machine.execUnimplB6 s
  | .orA => Sys2Proof.Machine.execOrA s
  | .cpB => Sys2Proof.Machine.execCpB s
  | .cpC => Sys2Proof.Machine.execCpC s
  | .cpD => Sys2Proof.Machine.execCpD s
  | .cpE => Sys2Proof.Machine.execCpE s
  | .cpH => Sys2Proof.Machine.execCpH s
  | .cpL => Sys2Proof.Machine.execCpL s
  | .unimplBE => Sys2Proof.Machine.execUnimplBE s
  | .cpA => Sys2Proof.Machine.execCpA s
  | .unimplC0 => Sys2Proof.Machine.execUnimplC0 s
  | .popBC => Sys2Proof.Machine.execPopBC s
  | .unimplC2 => Sys2Proof.Machine.execUnimplC2 s
  | .unimplC3 => Sys2Proof.Machine.execUnimplC3 s
  | .unimplC4 => Sys2Proof.Machine.execUnimplC4 s
  | .pushBC => Sys2Proof.Machine.execPushBC s
  | .unimplC6 => Sys2Proof.Machine.execUnimplC6 s
  | .unimplC7 => Sys2Proof.Machine.execUnimplC7 s
  | .unimplC8 => Sys2Proof.Machine.execUnimplC8 s
  | .unimplC9 => Sys2Proof.Machine.execUnimplC9 s
  | .unimplCA => Sys2Proof.Machine.execUnimplCA s
  | .unimplCB => Sys2Proof.Machine.execUnimplCB s
  | .unimplCC => Sys2Proof.Machine.execUnimplCC s
  | .unimplCD => Sys2Proof.Machine.execUnimplCD s
  | .unimplCE => Sys2Proof.Machine.execUnimplCE s
  | .unimplCF => Sys2Proof.Machine.execUnimplCF s
  | .unimplD0 => Sys2Proof.Machine.execUnimplD0 s
  | .popDE => Sys2Proof.Machine.execPopDE s
  | .unimplD2 => Sys2Proof.Machine.execUnimplD2 s
  | .unimplD3 => Sys2Proof.Machine.execUnimplD3 s
  | .unimplD4 => Sys2Proof.Machine.execUnimplD4 s
  | .pushDE => Sys2Proof.Machine.execPushDE s
  | .unimplD6 => Sys2Proof.Machine.execUnimplD6 s
  | .unimplD7 => Sys2Proof.Machine.execUnimplD7 s
  | .unimplD8 => Sys2Proof.Machine.execUnimplD8 s
  | .unimplD9 => Sys2Proof.Machine.execUnimplD9 s
  | .unimplDA => Sys2Proof.Machine.execUnimplDA s
  | .unimplDB => Sys2Proof.Machine.execUnimplDB s
  | .unimplDC => Sys2Proof.Machine.execUnimplDC s
  | .unimplDD => Sys2Proof.Machine.execUnimplDD s
  | .unimplDE => Sys2Proof.Machine.execUnimplDE s
  | .unimplDF => Sys2Proof.Machine.execUnimplDF s
  | .ldhImmA => Sys2Proof.Machine.execLdhImmA s
  | .popHL => Sys2Proof.Machine.execPopHL s
  | .ldIndCA => Sys2Proof.Machine.execLdIndCA s
  | .unimplE3 => Sys2Proof.Machine.execUnimplE3 s
  | .unimplE4 => Sys2Proof.Machine.execUnimplE4 s
  | .pushHL => Sys2Proof.Machine.execPushHL s
  | .unimplE6 => Sys2Proof.Machine.execUnimplE6 s
  | .unimplE7 => Sys2Proof.Machine.execUnimplE7 s
  | .unimplE8 => Sys2Proof.Machine.execUnimplE8 s
  | .unimplE9 => Sys2Proof.Machine.execUnimplE9 s
  | .ldAbsA => Sys2Proof.Machine.execLdAbsA s
  | .unimplEB => Sys2Proof.Machine.execUnimplEB s
  | .unimplEC => Sys2Proof.Machine.execUnimplEC s
  | .unimplED => Sys2Proof.Machine.execUnimplED s
  | .unimplEE => Sys2Proof.Machine.execUnimplEE s
  | .unimplEF => Sys2Proof.Machine.execUnimplEF s
  | .ldhAImm => Sys2Proof.Machine.execLdhAImm s
  | .popAF => Sys2Proof.Machine.execPopAF s
  | .ldAIndC => Sys2Proof.Machine.execLdAIndC s
  | .unimplF3 => Sys2Proof.Machine.execUnimplF3 s
  | .unimplF4 => Sys2Proof.Machine.execUnimplF4 s
  | .pushAF => Sys2Proof.Machine.execPushAF s
  | .unimplF6 => Sys2Proof.Machine.execUnimplF6 s
  | .unimplF7 => Sys2Proof.Machine.execUnimplF7 s
  | .ldHLSPImm => Sys2Proof.Machine.execLdHLSPImm s
  | .ldSPHL => Sys2Proof.Machine.execLdSPHL s
  | .ldAAbs => Sys2Proof.Machine.execLdAAbs s
  | .unimplFB => Sys2Proof.Machine.execUnimplFB s
  | .unimplFC => Sys2Proof.Machine.execUnimplFC s
  | .unimplFD => Sys2Proof.Machine.execUnimplFD s
  | .unimplFE => Sys2Proof.Machine.execUnimplFE s
  | .unimplFF => Sys2Proof.Machine.execUnimplFF s

end Sys2Proof.Machine
end

