-- ==== Sys2Proof/Machine/Driver.lean ====
section
/-! DEFINITION. The driver's side of the block: what it does between ticks (R62, R220), the Snapshot (R37, R38), and
placing an instruction to be run next. -/

namespace Sys2Proof.Machine

/-- One action of the driver between ticks. A memory write has an effect only under `P_ENV = OPEN` (R62). -/
def State.act (s : State) (x : DriverAct) : State :=
  match x with
  | .poke addr v =>
    match s.params.env with
    | .closed => s
    | .opened => s.store addr v
  | .reset => s.resetCore

/-- What the driver does before the coming tick: the first entry of its script, in order (log 10). -/
def State.driverTurn (s : State) : State :=
  match s.driver with
  | [] => s
  | acts :: rest => acts.foldl State.act { s with driver := rest }

/-- A Snapshot: an independent copy of the four pairs, SP and PC (R37). -/
structure Snapshot where
  af : Word
  bc : Word
  de : Word
  hl : Word
  sp : Word
  pc : Word
  deriving DecidableEq, Repr

/-- Taking a Snapshot; it changes no state of the core (R37). -/
def State.snapshot (s : State) : Snapshot := ⟨s.af, s.bc, s.de, s.hl, s.sp, s.pc⟩

/-- `REGS64 = AF ‖ BC ‖ DE ‖ HL` (R38). -/
def Snapshot.regs64 (x : Snapshot) : BitVec 64 := x.af ++ x.bc ++ x.de ++ x.hl

/-- `PTRS32 = SP ‖ PC` (R38). -/
def Snapshot.ptrs32 (x : Snapshot) : BitVec 32 := x.sp ++ x.pc

/-- The state in which the instruction with bytes `op`, `b1`, `b2` is about to be decoded: its opcode is already
fetched (R30), the bytes after it lie at PC, and the driver does nothing before the next tick (log 11). -/
def State.placeInstr (s : State) (op b1 b2 : Byte) : State :=
  { (s.store s.pc b1).store (s.pc + 1) b2 with
    opcode := op, seq := .boundary, driver := if s.driver = [] then [] else [] :: s.driver }

end Sys2Proof.Machine
end

