-- ==== Sys2Proof/Machine/Step.lean ====
section
/-! DEFINITION. One machine cycle. -/

namespace Sys2Proof.Machine

/-- `Tick` (R102): one tick of the instruction in `opcode`. -/
def tick (s : State) : Host.Outcome State Fault Refusal := exec (decodeOpcode s.opcode) s

/-- One step of the machine: the driver's turn, then one tick (R62: the driver acts only between ticks). -/
def step (s : State) : Host.Outcome State Fault Refusal := tick s.driverTurn

/-- `s` with the instruction of bits `w` about to be run by the next step. -/
def State.withFetchWord (s : State) (nbits w : Nat) : State :=
  s.placeInstr (tableByte nbits w 0) (tableByte nbits w 1) (tableByte nbits w 2)

end Sys2Proof.Machine
end

