-- ==== Sys2Proof/Machine/Schedule.lean ====
section
/-! DEFINITION. The family schedule table: the cycles of every form (R105), their number (R104), and the memory accesses
of a tick (R61). -/

namespace Sys2Proof.Machine

/-- The cycles of every form (R105); an unimplemented opcode has none. -/
def schedule (p : Params) (f : Form) : List MicroOp :=
  match f with
  | .nop => nopCycles
  | .ldRegReg dst src => ldRegRegCycles dst src
  | .ldRegImm dst => ldRegImmCycles dst
  | .ldRegHL dst => ldRegHLCycles dst
  | .ldAHLInc => ldAHLIncCycles
  | .ldAHLDec => ldAHLDecCycles
  | .ldHLReg r => ldHLRegCycles r
  | .ldHLIncA => ldHLIncACycles
  | .ldHLDecA => ldHLDecACycles
  | .ldHLImm => ldHLImmCycles
  | .ldABC => ldABCCycles
  | .ldADE => ldADECycles
  | .ldBCA => ldBCACycles
  | .ldDEA => ldDEACycles
  | .ldAC => ldACCycles
  | .ldCA => ldCACycles
  | .ldhAImm => ldhAImmCycles
  | .ldhImmA => ldhImmACycles
  | .ldAAbs => ldAAbsCycles
  | .ldAbsA => ldAbsACycles
  | .ldPairImm q => ldPairImmCycles q
  | .ldSPImm => ldSPImmCycles
  | .ldAbsSP => ldAbsSPCycles
  | .ldSPHL => ldSPHLCycles p.ldSpHlCycles
  | .push q => pushCycles q
  | .pushAF => pushAFCycles
  | .pop q => popCycles q
  | .popAF => popAFCycles
  | .ldHLSPImm => ldHLSPImmCycles
  | .alu op r => aluCycles op r
  | .compare r => compareCycles r
  | .unimplemented => []

/-- `Len(op)`, machine cycles of every form: the table of R104, written out. Of an unimplemented opcode: the one tick
that takes the exception. -/
def cyclesOf (p : Params) (f : Form) : Nat :=
  match f with
  | .nop => 1
  | .ldRegReg _ _ => 1
  | .ldRegImm _ => 2
  | .ldRegHL _ => 2
  | .ldAHLInc => 2
  | .ldAHLDec => 2
  | .ldHLReg _ => 2
  | .ldHLIncA => 2
  | .ldHLDecA => 2
  | .ldHLImm => 3
  | .ldABC => 2
  | .ldADE => 2
  | .ldBCA => 2
  | .ldDEA => 2
  | .ldAC => 2
  | .ldCA => 2
  | .ldhAImm => 3
  | .ldhImmA => 3
  | .ldAAbs => 4
  | .ldAbsA => 4
  | .ldPairImm _ => 3
  | .ldSPImm => 3
  | .ldAbsSP => 5
  | .push _ => 4
  | .pushAF => 4
  | .pop _ => 3
  | .popAF => 3
  | .ldHLSPImm => 3
  | .alu _ _ => 1
  | .compare _ => 1
  | .ldSPHL =>
    match p.ldSpHlCycles with
    | .one => 1
    | .two => 2
  | .unimplemented => 1

/-- Bytes of an instruction (R80, R84). -/
def bytesOf (i : Instr) : Nat :=
  match i.format with
  | .op => 1
  | .opI8 => 2
  | .opI16 => 3

/-- The memory accesses of one tick of instruction `i`, in order (R61, R105); none in Fault and none by an
unimplemented opcode (R201, R202). An observation, not state (log 16). -/
def busOf (i : Instr) (s : State) : List BusAccess := busOfCycles (schedule s.params i.form) s

end Sys2Proof.Machine
end

