-- ==== Sys2Proof/Machine/NetEffect.lean ====
section
/-! DEFINITION. The instruction-level view (R107): the net effect of each form, as the "Net effect" paragraph of its rule
gives it, written without the cycles. That the cycles have this effect is a statement to prove. -/

namespace Sys2Proof.Machine

/-- The change of registers, latches and memory by one whole instruction, PC and opcode apart; `i1` and `i2` are its
first and second immediate bytes (R120 to R188). -/
def netChange (f : Form) (i1 i2 : Byte) (s : State) : State :=
  match f with
  | .nop => s
  | .ldRegReg dst src => s.setR8 dst (s.getR8 src)
  | .ldRegImm dst => { s.setR8 dst i1 with zlo := i1 }
  | .ldRegHL dst => s.setR8 dst (s.byteAt s.hl)
  | .ldAHLInc => { s.setR8 .a (s.byteAt s.hl) with hl := s.hl + 1 }
  | .ldAHLDec => { s.setR8 .a (s.byteAt s.hl) with hl := s.hl - 1 }
  | .ldHLReg r => s.store s.hl (s.getR8 r)
  | .ldHLIncA => { s.store s.hl (s.getR8 .a) with hl := s.hl + 1 }
  | .ldHLDecA => { s.store s.hl (s.getR8 .a) with hl := s.hl - 1 }
  | .ldHLImm => { s.store s.hl i1 with zlo := i1 }
  | .ldABC => s.setR8 .a (s.byteAt s.bc)
  | .ldADE => s.setR8 .a (s.byteAt s.de)
  | .ldBCA => s.store s.bc (s.getR8 .a)
  | .ldDEA => s.store s.de (s.getR8 .a)
  | .ldAC => s.setR8 .a (s.byteAt (highPage (s.getR8 .c)))
  | .ldCA => s.store (highPage (s.getR8 .c)) (s.getR8 .a)
  | .ldhAImm => { s.setR8 .a (s.byteAt (highPage i1)) with zlo := i1 }
  | .ldhImmA => { s.store (highPage i1) (s.getR8 .a) with zlo := i1 }
  | .ldAAbs => { s.setR8 .a (s.byteAt (join i2 i1)) with zlo := i1, zhi := i2 }
  | .ldAbsA => { s.store (join i2 i1) (s.getR8 .a) with zlo := i1, zhi := i2 }
  | .ldPairImm p => { s.setPair p (join i2 i1) with zlo := i1, zhi := i2 }
  | .ldSPImm => { s with sp := join i2 i1, zlo := i1, zhi := i2 }
  | .ldAbsSP =>
    { (s.store (join i2 i1) (lo s.sp)).store (join i2 i1 + 1) (hi s.sp) with zlo := i1, zhi := i2 }
  | .ldSPHL => { s with sp := s.hl }
  | .push p => { (s.store (s.sp - 1) (hi (s.getPair p))).store (s.sp - 2) (lo (s.getPair p)) with sp := s.sp - 2 }
  | .pushAF => { (s.store (s.sp - 1) (s.getR8 .a)).store (s.sp - 2) s.getF with sp := s.sp - 2 }
  | .pop p => { s.setPair p (join (s.byteAt (s.sp + 1)) (s.byteAt s.sp)) with sp := s.sp + 2 }
  | .popAF => { s with af := join (s.byteAt (s.sp + 1)) (s.byteAt s.sp), sp := s.sp + 2 }
  | .ldHLSPImm =>
    { s.setFlags false false (halfCarryOut (lo s.sp) i1 false) (carryOut (lo s.sp) i1 false) with
      hl := s.sp + sext16 i1, zlo := i1 }
  | .alu op r => s.aluWrite op r
  | .compare r => s.compare r
  | .unimplemented => s

/-- One instruction step (R107): the net effect with the immediates at PC and PC+1, then `PC = q +16 len` and the
opcode of the next instruction read from memory after all of this instruction's writes. -/
def instrStep (i : Instr) (s : State) : State :=
  let t := netChange i.form (s.byteAt s.pc) (s.byteAt (s.pc + 1)) s
  { t with
    pc := s.pc + BitVec.ofNat 16 (bytesOf i)
    opcode := t.byteAt (s.pc + BitVec.ofNat 16 (bytesOf i - 1))
    seq := .boundary }

end Sys2Proof.Machine
end

