-- ==== Sys2Proof/Safety.lean ====
section
/-! DEFINITION. The terms claims are stated in: runs of ticks, the invariant, and a safe run. -/

namespace Sys2Proof.Machine

/-- `k` ticks of instruction `i`, whatever `opcode` holds, stopping at the first fault or refusal. -/
def execTicks (i : Instr) (k : Nat) (s : State) : Result :=
  match k with
  | 0 => .next s
  | k + 1 =>
    match exec i s with
    | .next t => execTicks i k t
    | .fault r => .fault r
    | .refused r => .refused r

/-- `k` ticks, with no driver action between them. -/
def ticks (k : Nat) (s : State) : Result :=
  match k with
  | 0 => .next s
  | k + 1 =>
    match tick s with
    | .next t => ticks k t
    | .fault r => .fault r
    | .refused r => .refused r

/-- The values `seq` may hold between ticks (R32): InFlight(n) with 1 <= n <= Len(opcode) - 1 (R102), and
Fault(op, addr) with the opcode still in `opcode`, unimplemented, and fetched from addr = PC - 1 (R201). -/
def SeqOk (s : State) : Prop :=
  match s.seq with
  | .boundary => True
  | .inFlight n => 1 ≤ n ∧ n < cyclesOf s.params (decodeOpcode s.opcode).form
  | .fault op addr => op = s.opcode ∧ addr = s.pc - 1 ∧ (decodeOpcode op).form = .unimplemented

/-- The invariant of the machine: memory in canonical form and `seq` in its range. -/
structure Inv (s : State) : Prop where
  mem : s.mem.wf = true
  seq : SeqOk s

/-- A state of a safe run: the core is not in Fault, which is never a normal end of a program (R202). -/
def Safe (s : State) : Prop := ∀ op addr, s.seq ≠ .fault op addr

/-! ### What each form may write (R24, R27, R58) -/

/-- The form stores to memory (R58). -/
def storesMemory (f : Form) : Bool :=
  match f with
  | .ldHLReg _ | .ldHLIncA | .ldHLDecA | .ldHLImm | .ldBCA | .ldDEA | .ldCA | .ldhImmA | .ldAbsA | .ldAbsSP => true
  | .push _ | .pushAF => true
  | .nop | .ldRegReg _ _ | .ldRegImm _ | .ldRegHL _ | .ldAHLInc | .ldAHLDec | .ldABC | .ldADE | .ldAC => false
  | .ldhAImm | .ldAAbs | .ldPairImm _ | .ldSPImm | .ldSPHL | .pop _ | .popAF | .ldHLSPImm => false
  | .alu _ _ | .compare _ | .unimplemented => false

/-- The form writes the flags byte (R27). -/
def writesFlags (f : Form) : Bool :=
  match f with
  | .alu _ _ | .compare _ | .ldHLSPImm | .popAF => true
  | .nop | .ldRegReg _ _ | .ldRegImm _ | .ldRegHL _ | .ldAHLInc | .ldAHLDec | .ldHLReg _ | .ldHLIncA | .ldHLDecA => false
  | .ldHLImm | .ldABC | .ldADE | .ldBCA | .ldDEA | .ldAC | .ldCA | .ldhAImm | .ldhImmA | .ldAAbs | .ldAbsA => false
  | .ldPairImm _ | .ldSPImm | .ldAbsSP | .ldSPHL | .push _ | .pushAF | .pop _ | .unimplemented => false

/-- The form writes SP (R24, R28). -/
def writesSp (f : Form) : Bool :=
  match f with
  | .ldSPImm | .ldSPHL | .push _ | .pushAF | .pop _ | .popAF => true
  | .nop | .ldRegReg _ _ | .ldRegImm _ | .ldRegHL _ | .ldAHLInc | .ldAHLDec | .ldHLReg _ | .ldHLIncA | .ldHLDecA => false
  | .ldHLImm | .ldABC | .ldADE | .ldBCA | .ldDEA | .ldAC | .ldCA | .ldhAImm | .ldhImmA | .ldAAbs | .ldAbsA => false
  | .ldPairImm _ | .ldAbsSP | .ldHLSPImm | .alu _ _ | .compare _ | .unimplemented => false

/-- The pair an 8-bit register is a half of (R20). -/
def pairOfReg8 (r : Reg8) : Pair :=
  match r with
  | .b | .c => .bc
  | .d | .e => .de
  | .h | .l => .hl
  | .a => .af

/-- The form writes the 8-bit register `r` (R24). -/
def writesReg8 (f : Form) (r : Reg8) : Bool :=
  match f with
  | .ldRegReg dst _ | .ldRegImm dst | .ldRegHL dst => r = dst
  | .ldAHLInc | .ldAHLDec => r = .a || pairOfReg8 r = .hl
  | .ldHLIncA | .ldHLDecA | .ldHLSPImm => pairOfReg8 r = .hl
  | .ldABC | .ldADE | .ldAC | .ldhAImm | .ldAAbs | .popAF | .alu _ _ => r = .a
  | .ldPairImm p | .pop p => pairOfReg8 r = p
  | .nop | .ldHLReg _ | .ldHLImm | .ldBCA | .ldDEA | .ldCA | .ldhImmA | .ldAbsA | .ldSPImm | .ldAbsSP | .ldSPHL => false
  | .push _ | .pushAF | .compare _ | .unimplemented => false

end Sys2Proof.Machine
end

