-- ==== Sys2Proof/Certificates/Slice0/Obligations.lean ====
section
/-! DEFINITION. The statements for the provers. Opcode values and register codes in them are the spec's (R22, R23, R84),
which it adopts from general knowledge (log 6). An instruction of several cycles is stated cycle by cycle: the state after
each tick in full, so that everything not named in it is unchanged. -/

open Sys2Proof Sys2Proof.Machine

/-! ### Encoding -/

/-- R83, R84, R85: the opcode map and the ordered classification agree on every byte, exactly the 99 listed bytes are
unimplemented, and 157 are not. The opcode values are the spec's choice (D7, log 6). -/
def Obligations.OpcodeMapAgreesWithClassify : Prop :=
  (∀ op : Byte, (decodeOpcode op).form = classify op) ∧
    (∀ op : Byte, classify op = .unimplemented ↔ op.toNat ∈
      [0x03, 0x04, 0x05, 0x07, 0x09, 0x0B, 0x0C, 0x0D, 0x0F, 0x10, 0x13, 0x14, 0x15, 0x17, 0x18, 0x19, 0x1B, 0x1C,
        0x1D, 0x1F, 0x20, 0x23, 0x24, 0x25, 0x27, 0x28, 0x29, 0x2B, 0x2C, 0x2D, 0x2F] ++
      [0x30, 0x33, 0x34, 0x35, 0x37, 0x38, 0x39, 0x3B, 0x3C, 0x3D, 0x3F, 0x76, 0x86, 0x8E, 0x96, 0x9E, 0xA6, 0xAE,
        0xB6, 0xBE, 0xC0, 0xC2, 0xC3, 0xC4, 0xC6, 0xC7, 0xC8, 0xC9, 0xCA, 0xCB, 0xCC, 0xCD, 0xCE, 0xCF] ++
      [0xD0, 0xD2, 0xD3, 0xD4, 0xD6, 0xD7, 0xD8, 0xD9, 0xDA, 0xDB, 0xDC, 0xDD, 0xDE, 0xDF, 0xE3, 0xE4, 0xE6, 0xE7,
        0xE8, 0xE9, 0xEB, 0xEC, 0xED, 0xEE, 0xEF, 0xF3, 0xF4, 0xF6, 0xF7, 0xFB, 0xFC, 0xFD, 0xFE, 0xFF]) ∧
    ((List.range 256).filter fun n => classify (BitVec.ofNat 8 n) ≠ .unimplemented).length = 157

/-- A few words written out from the spec's encodings decode to the instructions they stand for, operands included. -/
def Obligations.SampleWordsDecode : Prop :=
  decode [0b00000000#8] = .ok (⟨.nop, .none⟩, []) ∧
    decode [0b01#2 ++ 0b000#3 ++ 0b111#3] = .ok (⟨.ldBA, .none⟩, []) ∧
    decode [0b00#2 ++ 0b101#3 ++ 0b110#3, 0xFF#8] = .ok (⟨.ldLImm, .imm8 0xFF⟩, []) ∧
    decode [0b00100010#8] = .ok (⟨.ldIndHLIncA, .none⟩, []) ∧
    decode [0b11111010#8, 0xFF#8, 0x01#8] = .ok (⟨.ldAAbs, .imm16 0x01FF⟩, []) ∧
    decode [0b11#2 ++ 0b01#2 ++ 0b0101#4] = .ok (⟨.pushDE, .none⟩, []) ∧
    decode [0b10#2 ++ 0b011#3 ++ 0b001#3] = .ok (⟨.sbcC, .none⟩, []) ∧
    decode [0b11001011#8, 0x11#8] = .ok (⟨.unimplCB, .none⟩, [0x11#8])

/-- Decoding the bytes of any well-formed instruction, whatever follows them, gives it back with its immediate at every
value. -/
def Obligations.DecodeEncodeRoundTrip : Prop :=
  ∀ (x : Code) (rest : List Byte), x.wellFormed = true → decode (encode x ++ rest) = .ok (x, rest)

/-- Whatever decodes is well formed, and its encoding is exactly the bytes that were consumed. -/
def Obligations.EncodeDecodeRoundTrip : Prop :=
  ∀ (bytes rest : List Byte) (x : Code), decode bytes = .ok (x, rest) →
    x.wellFormed = true ∧ encode x ++ rest = bytes

/-! ### The step, reset, the driver -/

/-- R102, R62: a step with nothing in the driver's script is one tick of the instruction that the opcode register and the
bytes at PC decode to; in general the driver's turn comes first. -/
def Obligations.StepRunsDecodedInstruction : Prop :=
  (∀ (s : State) (x : Code) (rest : List Byte), s.driver = [] →
      decode [s.opcode, s.mem.read s.pc, s.mem.read (s.pc + 1)] = .ok (x, rest) → step s = exec x.instr s) ∧
    ∀ s : State, step s = exec (decodeOpcode s.driverTurn.opcode) s.driverTurn

/-- R40: the registers after reset. `opcode`, `seq`, `zlo` and `zhi` are the spec's decisions D3 and D19 (log 7); the
parameters, the draw counter and the empty script are the model's (logs 3, 4, 10). -/
def Obligations.ResetState : Prop :=
  State.reset.af = 0 ∧ State.reset.bc = 0 ∧ State.reset.de = 0 ∧ State.reset.hl = 0 ∧ State.reset.sp = 0 ∧
    State.reset.pc = 0 ∧ State.reset.opcode = 0 ∧ State.reset.seq = .boundary ∧ State.reset.zlo = 0 ∧
    State.reset.zhi = 0 ∧ State.reset.mem = [] ∧ State.reset.params = ⟨.two, .subLike, .closed⟩ ∧
    State.reset.draws = 0 ∧ State.reset.driver = []

/-- R220, R221: reset of a running core, from any state, Fault included, takes every register to its reset value, leaves
memory alone, and the tick after it fetches the opcode at address 0 and leaves PC = 1. Applying reset to a running core is
the spec's decision D22 (log 12). -/
def Obligations.DriverResetRestarts : Prop :=
  ∀ (s : State) (rest : List (List DriverAct)), s.driver = [.reset] :: rest →
    step s = .next { s with
      af := 0, bc := 0, de := 0, hl := 0, sp := 0, pc := 1, opcode := s.mem.read 0, seq := .boundary, zlo := 0, zhi := 0
      driver := rest }

/-- R62: under P_ENV = CLOSED the driver's turn changes no byte of memory, whatever its script says. -/
def Obligations.ClosedEnvKeepsMemory : Prop :=
  ∀ s : State, s.params.env = .closed → s.driverTurn.mem = s.mem ∧ s.driverTurn.params = s.params

/-- R62: under P_ENV = OPEN the driver may replace any bytes of memory between two ticks: every memory is reached by some
turn of it, and nothing else changes. -/
def Obligations.OpenEnvReachesEveryMemory : Prop :=
  ∀ (s : State) (m : Memory), s.params.env = .opened → s.mem.wf = true → m.wf = true →
    ∃ acts : List DriverAct, ({ s with driver := acts :: s.driver } : State).driverTurn = { s with mem := m }

/-! ### Invariant -/

/-- The invariant holds at reset. -/
def Obligations.InvariantAtReset : Prop := Inv State.reset

/-- From every state of the invariant a step answers a next state, and the invariant holds there (R32, R100, R201,
R203): memory stays canonical, `seq` stays in its range, Fault keeps its record. -/
def Obligations.InvariantKeptAndStepTotal : Prop :=
  ∀ s : State, Inv s → ∃ t : State, step s = .next t ∧ Inv t

/-! ### Memory, registers, flags, Snapshot -/

/-- R51: a write replaces the byte at its address and changes no other byte. -/
def Obligations.MemoryReadAfterWrite : Prop :=
  ∀ (m : Memory) (a b : Word) (v : Byte), m.wf = true →
    (m.write a v).read b = (if a = b then v else m.read b) ∧ (m.write a v).wf = true

/-- Two canonical memories that read the same at every address are the same list. -/
def Obligations.MemoryCanonicalForm : Prop :=
  ∀ m m' : Memory, m.wf = true → m'.wf = true → (∀ a : Word, m.read a = m'.read a) → m = m'

/-- R21: each pair and its halves are the same bits: a pair reproduces every value written to it, in both halves, and
writing one half leaves the other half, and every other pair, as it was. -/
def Obligations.PairAndHalvesAreOneStorage : Prop :=
  ∀ (s : State) (p : Pair) (v : Word) (x : Byte),
    (s.setPair p v).getPair p = v ∧ hi v ++ lo v = v ∧
    ((s.setPair .bc v).getR8 .b = v.extractLsb' 8 8 ∧ (s.setPair .bc v).getR8 .c = v.extractLsb' 0 8) ∧
    ((s.setPair .de v).getR8 .d = v.extractLsb' 8 8 ∧ (s.setPair .de v).getR8 .e = v.extractLsb' 0 8) ∧
    ((s.setPair .hl v).getR8 .h = v.extractLsb' 8 8 ∧ (s.setPair .hl v).getR8 .l = v.extractLsb' 0 8) ∧
    ((s.setPair .af v).getR8 .a = v.extractLsb' 8 8 ∧ (s.setPair .af v).getF = v.extractLsb' 0 8) ∧
    (s.setHi p x).getPair p = x ++ (s.getPair p).extractLsb' 0 8 ∧
    (s.setLo p x).getPair p = (s.getPair p).extractLsb' 8 8 ++ x ∧
    ∀ q : Pair, q ≠ p → (s.setPair p v).getPair q = s.getPair q ∧ (s.setHi p x).getPair q = s.getPair q ∧
      (s.setLo p x).getPair q = s.getPair q

/-- R20, R22: an 8-bit register reads what was last written to it, and writing one changes no other and not F. -/
def Obligations.RegisterReadAfterWrite : Prop :=
  ∀ (s : State) (r q : Reg8) (v : Byte),
    (s.setR8 r v).getR8 q = (if q = r then v else s.getR8 q) ∧ (s.setR8 r v).getF = s.getF

/-- R25, R26: the places of the four flags in F; getFlag reads one; setFlag sets one, keeps the other three and clears
F[3:0]; SetFlags equals four setFlag calls. The clearing by setFlag is the spec's decision D10 (log 15). -/
def Obligations.FlagCodecBits : Prop :=
  ∀ (f : Byte) (z n h c b : Bool) (x y : FlagId),
    (getFlag f .zero = f.getLsbD 7 ∧ getFlag f .subtract = f.getLsbD 6 ∧ getFlag f .halfCarry = f.getLsbD 5 ∧
      getFlag f .carry = f.getLsbD 4) ∧
    (getFlag (flagsByte z n h c) .zero = z ∧ getFlag (flagsByte z n h c) .subtract = n ∧
      getFlag (flagsByte z n h c) .halfCarry = h ∧ getFlag (flagsByte z n h c) .carry = c ∧
      (flagsByte z n h c).extractLsb' 0 4 = 0) ∧
    getFlag (setFlag f x b) y = (if y = x then b else getFlag f y) ∧ (setFlag f x b).extractLsb' 0 4 = 0 ∧
    setFlag (setFlag (setFlag (setFlag f .zero z) .subtract n) .halfCarry h) .carry c = flagsByte z n h c

/-- R38: the fused reads of a Snapshot. -/
def Obligations.SnapshotFusedReads : Prop :=
  ∀ s : State,
    s.snapshot.regs64.extractLsb' 48 16 = s.af ∧ s.snapshot.regs64.extractLsb' 32 16 = s.bc ∧
    s.snapshot.regs64.extractLsb' 16 16 = s.de ∧ s.snapshot.regs64.extractLsb' 0 16 = s.hl ∧
    s.snapshot.ptrs32.extractLsb' 16 16 = s.sp ∧ s.snapshot.ptrs32.extractLsb' 0 16 = s.pc

/-! ### Each instruction, cycle by cycle -/

/-- R120: NOP (constructor nop). -/
def Obligations.NopExecutes : Prop :=
  Instr.nop.opcode = 0x00 ∧ ∀ s : State, s.seq = .boundary →
    exec .nop s = .next { s with opcode := s.mem.read s.pc, pc := s.pc + 1 }

/-- R121: LD r,r', all 49 opcodes (constructors ldBB to ldAA, the LD of two 8-bit registers). Opcodes: D7, log 6. -/
def Obligations.LoadRegisterFromRegister : Prop :=
  ∀ (i : Instr) (dst src : Reg8) (s : State), i.opcode = 0b01#2 ++ codeOfReg8 dst ++ codeOfReg8 src →
    s.seq = .boundary →
    exec i s = .next { s.setR8 dst (s.getR8 src) with opcode := s.mem.read s.pc, pc := s.pc + 1 }

/-- R122: LD r,d8 (constructors ldBImm ldCImm ldDImm ldEImm ldHImm ldLImm ldAImm). Opcodes: D7, log 6. -/
def Obligations.LoadRegisterImmediate : Prop :=
  ∀ (i : Instr) (dst : Reg8) (s : State), i.opcode = 0b00#2 ++ codeOfReg8 dst ++ 0b110#3 → s.seq = .boundary →
    let d8 := s.mem.read s.pc
    let c0 : State := { s with zlo := d8, pc := s.pc + 1, seq := .inFlight 1 }
    exec i s = .next c0 ∧
    exec i c0 = .next { s.setR8 dst d8 with
      zlo := d8, pc := s.pc + 2, opcode := s.mem.read (s.pc + 1), seq := .boundary }

/-- R130: LD r,(HL) (constructors ldBIndHL ldCIndHL ldDIndHL ldEIndHL ldHIndHL ldLIndHL ldAIndHL).
Opcodes: D7, log 6. -/
def Obligations.LoadRegisterFromHL : Prop :=
  ∀ (i : Instr) (dst : Reg8) (s : State), i.opcode = 0b01#2 ++ codeOfReg8 dst ++ 0b110#3 → s.seq = .boundary →
    let c0 : State := { s.setR8 dst (s.mem.read s.hl) with seq := .inFlight 1 }
    exec i s = .next c0 ∧
    exec i c0 = .next { s.setR8 dst (s.mem.read s.hl) with
      opcode := s.mem.read s.pc, pc := s.pc + 1, seq := .boundary }

/-- R131, R132: LD A,(HL+) and LD A,(HL-) (constructors ldAIndHLInc, ldAIndHLDec). Opcodes: D7, log 6. -/
def Obligations.LoadAccumulatorHLAdjust : Prop :=
  Instr.ldAIndHLInc.opcode = 0x2A ∧ Instr.ldAIndHLDec.opcode = 0x3A ∧
  ∀ s : State, s.seq = .boundary →
    let af' : Word := s.mem.read s.hl ++ s.getF
    let inc : State := { s with af := af', hl := s.hl + 1, seq := .inFlight 1 }
    let dec : State := { s with af := af', hl := s.hl - 1, seq := .inFlight 1 }
    exec .ldAIndHLInc s = .next inc ∧
    exec .ldAIndHLInc inc = .next { inc with opcode := s.mem.read s.pc, pc := s.pc + 1, seq := .boundary } ∧
    exec .ldAIndHLDec s = .next dec ∧
    exec .ldAIndHLDec dec = .next { dec with opcode := s.mem.read s.pc, pc := s.pc + 1, seq := .boundary }

/-- R133: LD (HL),r (constructors ldIndHLB ldIndHLC ldIndHLD ldIndHLE ldIndHLH ldIndHLL ldIndHLA). The opcode fetched at
the end is read after the store. Opcodes: D7, log 6. -/
def Obligations.StoreRegisterAtHL : Prop :=
  ∀ (i : Instr) (r : Reg8) (s : State), i.opcode = 0b01#2 ++ 0b110#3 ++ codeOfReg8 r → s.seq = .boundary →
    let m := s.mem.write s.hl (s.getR8 r)
    let c0 : State := { s with mem := m, seq := .inFlight 1 }
    exec i s = .next c0 ∧
    exec i c0 = .next { s with mem := m, opcode := m.read s.pc, pc := s.pc + 1 }

/-- R134: LD (HL+),A (constructor ldIndHLIncA). Its opcode 0x22 is the source's own. -/
def Obligations.StoreAccumulatorHLIncrement : Prop :=
  Instr.ldIndHLIncA.opcode = 0x22 ∧ ∀ s : State, s.seq = .boundary →
    let m := s.mem.write s.hl (s.getR8 .a)
    let c0 : State := { s with mem := m, hl := s.hl + 1, seq := .inFlight 1 }
    exec .ldIndHLIncA s = .next c0 ∧
    exec .ldIndHLIncA c0 = .next { c0 with opcode := m.read s.pc, pc := s.pc + 1, seq := .boundary }

/-- R135: LD (HL-),A (constructor ldIndHLDecA). Opcodes: D7, log 6. -/
def Obligations.StoreAccumulatorHLDecrement : Prop :=
  Instr.ldIndHLDecA.opcode = 0x32 ∧ ∀ s : State, s.seq = .boundary →
    let m := s.mem.write s.hl (s.getR8 .a)
    let c0 : State := { s with mem := m, hl := s.hl - 1, seq := .inFlight 1 }
    exec .ldIndHLDecA s = .next c0 ∧
    exec .ldIndHLDecA c0 = .next { c0 with opcode := m.read s.pc, pc := s.pc + 1, seq := .boundary }

/-- R136: LD (HL),d8 (constructor ldIndHLImm); the store of the last cycle comes before the opcode fetch.
Opcodes: D7, log 6. -/
def Obligations.StoreImmediateAtHL : Prop :=
  Instr.ldIndHLImm.opcode = 0x36 ∧ ∀ s : State, s.seq = .boundary →
    let d8 := s.mem.read s.pc
    let c0 : State := { s with zlo := d8, pc := s.pc + 1, seq := .inFlight 2 }
    let c1 : State := { c0 with seq := .inFlight 1 }
    let m := s.mem.write s.hl d8
    exec .ldIndHLImm s = .next c0 ∧ exec .ldIndHLImm c0 = .next c1 ∧
    exec .ldIndHLImm c1 = .next { s with
      zlo := d8, mem := m, pc := s.pc + 2, opcode := m.read (s.pc + 1), seq := .boundary }

/-- R140, R141: LD A,(BC) and LD A,(DE) (constructors ldAIndBC, ldAIndDE). That the access is on the first cycle is the
spec's decision D11 (log 13). Opcodes: D7, log 6. -/
def Obligations.LoadAccumulatorFromPair : Prop :=
  Instr.ldAIndBC.opcode = 0x0A ∧ Instr.ldAIndDE.opcode = 0x1A ∧
  ∀ s : State, s.seq = .boundary →
    let bc : State := { s with af := s.mem.read s.bc ++ s.getF, seq := .inFlight 1 }
    let de : State := { s with af := s.mem.read s.de ++ s.getF, seq := .inFlight 1 }
    exec .ldAIndBC s = .next bc ∧
    exec .ldAIndBC bc = .next { bc with opcode := s.mem.read s.pc, pc := s.pc + 1, seq := .boundary } ∧
    exec .ldAIndDE s = .next de ∧
    exec .ldAIndDE de = .next { de with opcode := s.mem.read s.pc, pc := s.pc + 1, seq := .boundary }

/-- R142, R143: LD (BC),A and LD (DE),A (constructors ldIndBCA, ldIndDEA). The access on the first cycle is the spec's
decision D11 (log 13). Opcodes: D7, log 6. -/
def Obligations.StoreAccumulatorAtPair : Prop :=
  Instr.ldIndBCA.opcode = 0x02 ∧ Instr.ldIndDEA.opcode = 0x12 ∧
  ∀ s : State, s.seq = .boundary →
    let mb := s.mem.write s.bc (s.getR8 .a)
    let md := s.mem.write s.de (s.getR8 .a)
    exec .ldIndBCA s = .next { s with mem := mb, seq := .inFlight 1 } ∧
    exec .ldIndBCA { s with mem := mb, seq := .inFlight 1 } =
      .next { s with mem := mb, opcode := mb.read s.pc, pc := s.pc + 1 } ∧
    exec .ldIndDEA s = .next { s with mem := md, seq := .inFlight 1 } ∧
    exec .ldIndDEA { s with mem := md, seq := .inFlight 1 } =
      .next { s with mem := md, opcode := md.read s.pc, pc := s.pc + 1 }

/-- R144, R145: LD A,(C) and LD (C),A (constructors ldAIndC, ldIndCA); the address is 0xFF ‖ C. The access on the first
cycle is the spec's decision D11 (log 13). Opcodes: D7, log 6. -/
def Obligations.HighPageByRegisterC : Prop :=
  Instr.ldAIndC.opcode = 0xF2 ∧ Instr.ldIndCA.opcode = 0xE2 ∧
  ∀ s : State, s.seq = .boundary →
    let ea : Word := 0xFF#8 ++ s.getR8 .c
    let ld : State := { s with af := s.mem.read ea ++ s.getF, seq := .inFlight 1 }
    let m := s.mem.write ea (s.getR8 .a)
    exec .ldAIndC s = .next ld ∧
    exec .ldAIndC ld = .next { ld with opcode := s.mem.read s.pc, pc := s.pc + 1, seq := .boundary } ∧
    exec .ldIndCA s = .next { s with mem := m, seq := .inFlight 1 } ∧
    exec .ldIndCA { s with mem := m, seq := .inFlight 1 } =
      .next { s with mem := m, opcode := m.read s.pc, pc := s.pc + 1 }

/-- R146, R147: LDH A,(a8) and LDH (a8),A (constructors ldhAImm, ldhImmA); the address is 0xFF ‖ a8, and the access of the
last cycle comes before the opcode fetch. Opcodes: D7, log 6. -/
def Obligations.HighPageByImmediate : Prop :=
  Instr.ldhAImm.opcode = 0xF0 ∧ Instr.ldhImmA.opcode = 0xE0 ∧
  ∀ s : State, s.seq = .boundary →
    let a8 := s.mem.read s.pc
    let ea : Word := 0xFF#8 ++ a8
    let c0 : State := { s with zlo := a8, pc := s.pc + 1, seq := .inFlight 2 }
    let c1 : State := { c0 with seq := .inFlight 1 }
    let m := s.mem.write ea (s.getR8 .a)
    (exec .ldhAImm s = .next c0 ∧ exec .ldhAImm c0 = .next c1 ∧
      exec .ldhAImm c1 = .next { s with
        af := s.mem.read ea ++ s.getF, zlo := a8, pc := s.pc + 2, opcode := s.mem.read (s.pc + 1) }) ∧
    exec .ldhImmA s = .next c0 ∧ exec .ldhImmA c0 = .next c1 ∧
    exec .ldhImmA c1 = .next { s with mem := m, zlo := a8, pc := s.pc + 2, opcode := m.read (s.pc + 1) }

/-- R148: LD A,(a16) (constructor ldAAbs). Opcodes: D7, log 6. -/
def Obligations.LoadAccumulatorAbsolute : Prop :=
  Instr.ldAAbs.opcode = 0xFA ∧ ∀ s : State, s.seq = .boundary →
    let l := s.mem.read s.pc
    let h := s.mem.read (s.pc + 1)
    let a16 : Word := h ++ l
    let c0 : State := { s with zlo := l, pc := s.pc + 1, seq := .inFlight 3 }
    let c1 : State := { s with zlo := l, zhi := h, pc := s.pc + 2, seq := .inFlight 2 }
    let c2 : State := { c1 with af := s.mem.read a16 ++ s.getF, seq := .inFlight 1 }
    exec .ldAAbs s = .next c0 ∧ exec .ldAAbs c0 = .next c1 ∧ exec .ldAAbs c1 = .next c2 ∧
    exec .ldAAbs c2 = .next { c2 with opcode := s.mem.read (s.pc + 2), pc := s.pc + 3, seq := .boundary }

/-- R149: LD (a16),A (constructor ldAbsA). Opcodes: D7, log 6. -/
def Obligations.StoreAccumulatorAbsolute : Prop :=
  Instr.ldAbsA.opcode = 0xEA ∧ ∀ s : State, s.seq = .boundary →
    let l := s.mem.read s.pc
    let h := s.mem.read (s.pc + 1)
    let a16 : Word := h ++ l
    let m := s.mem.write a16 (s.getR8 .a)
    let c0 : State := { s with zlo := l, pc := s.pc + 1, seq := .inFlight 3 }
    let c1 : State := { s with zlo := l, zhi := h, pc := s.pc + 2, seq := .inFlight 2 }
    let c2 : State := { c1 with mem := m, seq := .inFlight 1 }
    exec .ldAbsA s = .next c0 ∧ exec .ldAbsA c0 = .next c1 ∧ exec .ldAbsA c1 = .next c2 ∧
    exec .ldAbsA c2 = .next { c2 with opcode := m.read (s.pc + 2), pc := s.pc + 3, seq := .boundary }

/-- R160: LD rr,d16 with rr = BC, DE, HL (constructors ldPairBCImm, ldPairDEImm, ldPairHLImm). Opcodes: D7, log 6. -/
def Obligations.LoadPairImmediate : Prop :=
  ∀ (i : Instr) (p : Pair) (s : State), p ≠ .af → i.opcode = 0b00#2 ++ codeOfPair p ++ 0b0001#4 → s.seq = .boundary →
    let l := s.mem.read s.pc
    let h := s.mem.read (s.pc + 1)
    let c0 : State := { s with zlo := l, pc := s.pc + 1, seq := .inFlight 2 }
    let c1 : State := { s with zlo := l, zhi := h, pc := s.pc + 2, seq := .inFlight 1 }
    exec i s = .next c0 ∧ exec i c0 = .next c1 ∧
    exec i c1 = .next { s.setPair p (h ++ l) with
      zlo := l, zhi := h, opcode := s.mem.read (s.pc + 2), pc := s.pc + 3, seq := .boundary }

/-- R161: LD SP,d16 (constructor ldSPImm). Opcodes: D7, log 6. -/
def Obligations.LoadSPImmediate : Prop :=
  Instr.ldSPImm.opcode = 0x31 ∧ ∀ s : State, s.seq = .boundary →
    let l := s.mem.read s.pc
    let h := s.mem.read (s.pc + 1)
    let c0 : State := { s with zlo := l, pc := s.pc + 1, seq := .inFlight 2 }
    let c1 : State := { s with zlo := l, zhi := h, pc := s.pc + 2, seq := .inFlight 1 }
    exec .ldSPImm s = .next c0 ∧ exec .ldSPImm c0 = .next c1 ∧
    exec .ldSPImm c1 = .next { s with
      sp := h ++ l, zlo := l, zhi := h, opcode := s.mem.read (s.pc + 2), pc := s.pc + 3 }

/-- R162: LD (a16),SP (constructor ldAbsSP): low byte at a16, then high byte at a16 + 1 modulo 65536.
Opcodes: D7, log 6. -/
def Obligations.StoreSPAbsolute : Prop :=
  Instr.ldAbsSP.opcode = 0x08 ∧ ∀ s : State, s.seq = .boundary →
    let l := s.mem.read s.pc
    let h := s.mem.read (s.pc + 1)
    let a16 : Word := h ++ l
    let m2 := s.mem.write a16 (s.sp.extractLsb' 0 8)
    let m3 := m2.write (a16 + 1) (s.sp.extractLsb' 8 8)
    let c0 : State := { s with zlo := l, pc := s.pc + 1, seq := .inFlight 4 }
    let c1 : State := { s with zlo := l, zhi := h, pc := s.pc + 2, seq := .inFlight 3 }
    let c2 : State := { c1 with mem := m2, seq := .inFlight 2 }
    let c3 : State := { c1 with mem := m3, seq := .inFlight 1 }
    exec .ldAbsSP s = .next c0 ∧ exec .ldAbsSP c0 = .next c1 ∧ exec .ldAbsSP c1 = .next c2 ∧
    exec .ldAbsSP c2 = .next c3 ∧
    exec .ldAbsSP c3 = .next { c3 with opcode := m3.read (s.pc + 2), pc := s.pc + 3, seq := .boundary }

/-- R163: LD SP,HL (constructor ldSPHL), in one cycle or in two by P_LD_SP_HL_CYCLES (the spec's decision D4, log 3).
Opcodes: D7, log 6. -/
def Obligations.LoadSPFromHL : Prop :=
  Instr.ldSPHL.opcode = 0xF9 ∧ ∀ s : State, s.seq = .boundary →
    let done : State := { s with sp := s.hl, opcode := s.mem.read s.pc, pc := s.pc + 1 }
    (s.params.ldSpHlCycles = .one → exec .ldSPHL s = .next done) ∧
    (s.params.ldSpHlCycles = .two →
      exec .ldSPHL s = .next { s with sp := s.hl, seq := .inFlight 1 } ∧
      exec .ldSPHL { s with sp := s.hl, seq := .inFlight 1 } = .next done)

/-- R164, R165: PUSH BC, DE, HL and AF (constructors pushBC, pushDE, pushHL, pushAF): the high byte at SP - 1, then the low
byte at SP - 2, all 8 bits of F among them. Opcodes: D7, log 6. -/
def Obligations.PushExecutes : Prop :=
  ∀ (i : Instr) (p : Pair) (s : State), i.opcode = 0b11#2 ++ codeOfPair p ++ 0b0101#4 → s.seq = .boundary →
    let m1 := s.mem.write (s.sp - 1) ((s.getPair p).extractLsb' 8 8)
    let m2 := m1.write (s.sp - 2) ((s.getPair p).extractLsb' 0 8)
    let c0 : State := { s with sp := s.sp - 1, seq := .inFlight 3 }
    let c1 : State := { s with sp := s.sp - 2, mem := m1, seq := .inFlight 2 }
    let c2 : State := { s with sp := s.sp - 2, mem := m2, seq := .inFlight 1 }
    exec i s = .next c0 ∧ exec i c0 = .next c1 ∧ exec i c1 = .next c2 ∧
    exec i c2 = .next { c2 with opcode := m2.read s.pc, pc := s.pc + 1, seq := .boundary }

/-- R166, R167: POP BC, DE, HL and AF (constructors popBC, popDE, popHL, popAF): low byte, then high byte; F is loaded
unmasked. When each half is written is the spec's decision D12, and the unmasked F its decision D9 (logs 13, 15).
Opcodes: D7, log 6. -/
def Obligations.PopExecutes : Prop :=
  ∀ (i : Instr) (p : Pair) (s : State), i.opcode = 0b11#2 ++ codeOfPair p ++ 0b0001#4 → s.seq = .boundary →
    let l := s.mem.read s.sp
    let h := s.mem.read (s.sp + 1)
    let c0 : State := { s.setLo p l with sp := s.sp + 1, seq := .inFlight 2 }
    let c1 : State := { s.setPair p (h ++ l) with sp := s.sp + 2, seq := .inFlight 1 }
    exec i s = .next c0 ∧ exec i c0 = .next c1 ∧
    exec i c1 = .next { c1 with opcode := s.mem.read s.pc, pc := s.pc + 1, seq := .boundary }

/-- R168: LD HL,SP+r8 (constructor ldHLSPImm): HL is SP plus the sign-extended displacement; half-carry and carry are those
of the unsigned sum of SP's low byte and the displacement; Zero and Subtract are cleared. Opcodes: D7, log 6. -/
def Obligations.LoadHLFromSPPlusDisplacement : Prop :=
  Instr.ldHLSPImm.opcode = 0xF8 ∧ ∀ s : State, s.seq = .boundary →
    let d := s.mem.read s.pc
    let h := decide (s.sp.toNat % 16 + d.toNat % 16 > 0xF)
    let c := decide (s.sp.toNat % 256 + d.toNat > 0xFF)
    let c0 : State := { s with zlo := d, pc := s.pc + 1, seq := .inFlight 2 }
    let c1 : State := { s with
      zlo := d, pc := s.pc + 1, hl := s.sp + d.signExtend 16
      af := s.getR8 .a ++ flagsByte false false h c, seq := .inFlight 1 }
    exec .ldHLSPImm s = .next c0 ∧ exec .ldHLSPImm c0 = .next c1 ∧
    exec .ldHLSPImm c1 = .next { c1 with opcode := s.mem.read (s.pc + 1), pc := s.pc + 2, seq := .boundary }

/-- R181: ADD A,r (constructors addB addC addD addE addH addL addA). Opcodes: D7, log 6. -/
def Obligations.AddExecutes : Prop :=
  ∀ (i : Instr) (r : Reg8) (s : State), i.opcode = 0b10#2 ++ 0b000#3 ++ codeOfReg8 r → s.seq = .boundary →
    let a := (s.getR8 .a).toNat
    let b := (s.getR8 r).toNat
    let res : Byte := BitVec.ofNat 8 (a + b)
    exec i s = .next { s with
      af := res ++ flagsByte (res == 0) false (decide (a % 16 + b % 16 > 0xF)) (decide (a + b > 0xFF))
      opcode := s.mem.read s.pc, pc := s.pc + 1 }

/-- R182: ADC A,r (constructors adcB adcC adcD adcE adcH adcL adcA). Opcodes: D7, log 6. -/
def Obligations.AdcExecutes : Prop :=
  ∀ (i : Instr) (r : Reg8) (s : State), i.opcode = 0b10#2 ++ 0b001#3 ++ codeOfReg8 r → s.seq = .boundary →
    let a := (s.getR8 .a).toNat
    let b := (s.getR8 r).toNat
    let cin := (s.getF.getLsbD 4).toNat
    let res : Byte := BitVec.ofNat 8 (a + b + cin)
    exec i s = .next { s with
      af := res ++ flagsByte (res == 0) false (decide (a % 16 + b % 16 + cin > 0xF)) (decide (a + b + cin > 0xFF))
      opcode := s.mem.read s.pc, pc := s.pc + 1 }

/-- R183: SUB A,r (constructors subB subC subD subE subH subL subA). Opcodes: D7, log 6. -/
def Obligations.SubExecutes : Prop :=
  ∀ (i : Instr) (r : Reg8) (s : State), i.opcode = 0b10#2 ++ 0b010#3 ++ codeOfReg8 r → s.seq = .boundary →
    let a := (s.getR8 .a).toNat
    let b := (s.getR8 r).toNat
    let res : Byte := BitVec.ofNat 8 (a + 256 - b)
    exec i s = .next { s with
      af := res ++ flagsByte (res == 0) true (decide (a % 16 < b % 16)) (decide (a < b))
      opcode := s.mem.read s.pc, pc := s.pc + 1 }

/-- R184: SBC A,r (constructors sbcB sbcC sbcD sbcE sbcH sbcL sbcA). Opcodes: D7, log 6. -/
def Obligations.SbcExecutes : Prop :=
  ∀ (i : Instr) (r : Reg8) (s : State), i.opcode = 0b10#2 ++ 0b011#3 ++ codeOfReg8 r → s.seq = .boundary →
    let a := (s.getR8 .a).toNat
    let b := (s.getR8 r).toNat
    let cin := (s.getF.getLsbD 4).toNat
    let res : Byte := BitVec.ofNat 8 (a + 256 - b - cin)
    exec i s = .next { s with
      af := res ++ flagsByte (res == 0) true (decide (a % 16 < b % 16 + cin)) (decide (a < b + cin))
      opcode := s.mem.read s.pc, pc := s.pc + 1 }

/-- R185, R186, R187: AND, XOR and OR A,r (constructors andB to andA, xorB to xorA, orB to orA). Opcodes: D7, log 6. -/
def Obligations.LogicExecutes : Prop :=
  ∀ (i j k : Instr) (r : Reg8) (s : State), i.opcode = 0b10#2 ++ 0b100#3 ++ codeOfReg8 r →
    j.opcode = 0b10#2 ++ 0b101#3 ++ codeOfReg8 r → k.opcode = 0b10#2 ++ 0b110#3 ++ codeOfReg8 r → s.seq = .boundary →
    let a := s.getR8 .a
    let b := s.getR8 r
    exec i s = .next { s with
      af := (a &&& b) ++ flagsByte (a &&& b == 0) false true false, opcode := s.mem.read s.pc, pc := s.pc + 1 } ∧
    exec j s = .next { s with
      af := (a ^^^ b) ++ flagsByte (a ^^^ b == 0) false false false, opcode := s.mem.read s.pc, pc := s.pc + 1 } ∧
    exec k s = .next { s with
      af := (a ||| b) ++ flagsByte (a ||| b == 0) false false false, opcode := s.mem.read s.pc, pc := s.pc + 1 }

/-- R188: CP A,r (constructors cpB cpC cpD cpE cpH cpL cpA): A stays; Zero is A = operand, Subtract is 1; half-carry and
carry are those of SUB under P_CP_FLAGS = SUB_LIKE and the next free draw under ANY_CH (the spec's decision D5, logs 3
and 4). Opcodes: D7, log 6. -/
def Obligations.CompareExecutes : Prop :=
  ∀ (i : Instr) (r : Reg8) (s : State), i.opcode = 0b10#2 ++ 0b111#3 ++ codeOfReg8 r → s.seq = .boundary →
    let a := s.getR8 .a
    let b := s.getR8 r
    (s.params.cpFlags = .subLike → exec i s = .next { s with
      af := a ++ flagsByte (a == b) true (decide (a.toNat % 16 < b.toNat % 16)) (decide (a.toNat < b.toNat))
      opcode := s.mem.read s.pc, pc := s.pc + 1 }) ∧
    (s.params.cpFlags = .anyCH → exec i s = .next { s with
      af := a ++ flagsByte (a == b) true (Config.freeCpFlags s.draws).1 (Config.freeCpFlags s.draws).2
      draws := s.draws + 1, opcode := s.mem.read s.pc, pc := s.pc + 1 })

/-- R200, R201, R202: each of the 99 unimplemented opcodes (constructors unimpl03 to unimplFF) takes the exception at
decode: seq records the opcode and the address it was fetched from, nothing else changes and no memory access is made;
from then on a tick of any instruction changes nothing. The fault is the spec's decision D8 (log 8). -/
def Obligations.UnimplementedTakesFault : Prop :=
  ∀ (i : Instr) (s : State), i.form = .unimplemented → s.seq = .boundary →
    exec i s = .next { s with seq := .fault s.opcode (s.pc - 1) } ∧ busOf i s = [] ∧
    ∀ j : Instr, exec j { s with seq := .fault s.opcode (s.pc - 1) } = .next { s with seq := .fault s.opcode (s.pc - 1) } ∧
      busOf j { s with seq := .fault s.opcode (s.pc - 1) } = []

/-! ### Rules over all instructions -/

/-- R190: the lost bit is in the flags: the result of ADC with its carry, and of SBC with its borrow, is the exact sum and
difference, likewise on the low nibbles with half-carry; ADD and SUB are ADC and SBC without carry-in. -/
def Obligations.AluArithmeticIdentities : Prop :=
  ∀ (a b : Byte) (cin : Bool),
    let x := aluApply .adc a b cin
    let y := aluApply .sbc a b cin
    x.res.toNat + 256 * x.c.toNat = a.toNat + b.toNat + cin.toNat ∧
    x.res.toNat % 16 + 16 * x.h.toNat = a.toNat % 16 + b.toNat % 16 + cin.toNat ∧
    (y.res.toNat : Int) - 256 * y.c.toNat = a.toNat - b.toNat - cin.toNat ∧
    ((y.res.toNat % 16 : Nat) : Int) - 16 * y.h.toNat = ((a.toNat % 16 : Nat) : Int) - (b.toNat % 16 : Nat) - cin.toNat ∧
    aluApply .add a b cin = aluApply .adc a b false ∧ aluApply .sub a b cin = aluApply .sbc a b false

/-- PUSH rr then POP rr (opcodes: D7, log 6), for all four pairs and every value, leaves the pair and SP unchanged and
every other register too, with the pushed bytes below the old SP and every other byte of memory unchanged. -/
def Obligations.PushThenPopIsIdentity : Prop :=
  ∀ (i j : Instr) (p : Pair) (s : State), i.opcode = 0b11#2 ++ codeOfPair p ++ 0b0101#4 →
    j.opcode = 0b11#2 ++ codeOfPair p ++ 0b0001#4 → s.seq = .boundary → s.mem.wf = true →
    ∃ t u : State, execTicks i 4 s = .next t ∧ execTicks j 3 t = .next u ∧ u.seq = .boundary ∧
      (∀ q : Pair, u.getPair q = s.getPair q) ∧ u.sp = s.sp ∧
      u.mem.read (s.sp - 1) = (s.getPair p).extractLsb' 8 8 ∧ u.mem.read (s.sp - 2) = (s.getPair p).extractLsb' 0 8 ∧
      ∀ a : Word, a ≠ s.sp - 1 → a ≠ s.sp - 2 → u.mem.read a = s.mem.read a

/-- R102, R104, R107: from Boundary an implemented opcode takes exactly Len ticks: after k < Len ticks Len - k are owed and
the opcode is the same; after Len ticks seq is Boundary, PC has grown by the instruction's bytes, and the opcode register
holds the byte before PC of memory as it is then. -/
def Obligations.InstructionTakesLenTicks : Prop :=
  ∀ s : State, s.seq = .boundary → (decodeOpcode s.opcode).form ≠ .unimplemented →
    let len := cyclesOf s.params (decodeOpcode s.opcode).form
    (∀ k : Nat, 0 < k → k < len → ∃ t : State, ticks k s = .next t ∧ t.seq = .inFlight (len - k) ∧ t.opcode = s.opcode) ∧
    ∃ t : State, ticks len s = .next t ∧ t.seq = .boundary ∧
      t.pc = s.pc + BitVec.ofNat 16 (bytesOf (decodeOpcode s.opcode)) ∧ t.opcode = t.mem.read (t.pc - 1)

/-- R107: the ticks of an instruction amount to its net effect: the cycle-level machine refines the instruction-level
one. -/
def Obligations.TicksRefineNetEffect : Prop :=
  ∀ s : State, s.seq = .boundary → (decodeOpcode s.opcode).form ≠ .unimplemented →
    ticks (cyclesOf s.params (decodeOpcode s.opcode).form) s = .next (instrStep (decodeOpcode s.opcode) s)

/-- R103: the tick that ends an implemented instruction loads the opcode from the byte that PC named, as memory is after
that tick's own write, and advances PC by one; no other tick changes the opcode, and PC changes on another tick only by the
read of an immediate byte at PC. -/
def Obligations.OpcodeAndPcChangeOnlyByFetch : Prop :=
  ∀ (i : Instr) (s t : State), (∀ op a, s.seq ≠ .fault op a) → i.form ≠ .unimplemented → exec i s = .next t →
    (t.seq = .boundary → t.pc = s.pc + 1 ∧ t.opcode = t.mem.read s.pc) ∧
    (t.seq ≠ .boundary → t.opcode = s.opcode ∧
      (t.pc = s.pc ∨ (t.pc = s.pc + 1 ∧ busOf i s = [.read s.pc (s.mem.read s.pc)])))

/-- R201, R202: a tick ends in Fault only from Fault, with nothing changed, or by decoding an unimplemented opcode. -/
def Obligations.FaultOnlyByDecode : Prop :=
  ∀ (i : Instr) (s t : State) (op : Byte) (a : Word), exec i s = .next t → t.seq = .fault op a →
    (s.seq = .fault op a ∧ t = s) ∨
      (s.seq = .boundary ∧ i.form = .unimplemented ∧ op = s.opcode ∧ a = s.pc - 1 ∧
        t = { s with seq := .fault op a })

/-- R61: a tick makes at most one access for its work and then, on an instruction's last cycle, the opcode fetch, which
reads the byte that is then in the opcode register; only the last cycles of LD (HL),d8, LDH A,(a8) and LDH (a8),A make
both. -/
def Obligations.BusAccessesInOrder : Prop :=
  ∀ (i : Instr) (s t : State), (∀ op a, s.seq ≠ .fault op a) → i.form ≠ .unimplemented → exec i s = .next t →
    ∃ work : List BusAccess, work.length ≤ 1 ∧
      busOf i s = work ++ (if t.seq = .boundary then [.read (t.pc - 1) t.opcode] else []) ∧
      (t.seq = .boundary → work ≠ [] → i = .ldIndHLImm ∨ i = .ldhAImm ∨ i = .ldhImmA)

/-- R51, R58, R62: the frame of memory: a byte changes only where the tick writes on the bus, a written byte reads back as
written, and the data a tick reads is what memory held. -/
def Obligations.MemoryChangesOnlyByBusWrites : Prop :=
  ∀ (i : Instr) (s t : State), s.mem.wf = true → exec i s = .next t →
    (∀ a : Word, (∀ v : Byte, BusAccess.write a v ∉ busOf i s) → t.mem.read a = s.mem.read a) ∧
    (∀ (a : Word) (v : Byte), BusAccess.write a v ∈ busOf i s → t.mem.read a = v) ∧
    ∀ (a : Word) (v : Byte), BusAccess.read a v ∈ busOf i s → t.mem.read a = v

/-- R58: only the store forms change memory: for every other form every byte reads as before, tick by tick. -/
def Obligations.OnlyStoreFormsChangeMemory : Prop :=
  ∀ (i : Instr) (s t : State), storesMemory i.form = false → exec i s = .next t →
    (∀ a : Word, t.mem.read a = s.mem.read a) ∧ ∀ (a : Word) (v : Byte), BusAccess.write a v ∉ busOf i s

/-- R24, R27, R28: the frame of the registers: an 8-bit register, F, and SP change only by the forms that write them, the
latches only by a form with an immediate operand, and the parameters and the driver's script by no tick. -/
def Obligations.RegistersChangeOnlyByTheirForms : Prop :=
  ∀ (i : Instr) (s t : State), exec i s = .next t →
    (∀ r : Reg8, writesReg8 i.form r = false → t.getR8 r = s.getR8 r) ∧
    (writesFlags i.form = false → t.getF = s.getF) ∧
    (writesSp i.form = false → t.sp = s.sp) ∧
    (i.format = .op → t.zlo = s.zlo) ∧ (i.format ≠ .opI16 → t.zhi = s.zhi) ∧
    t.params = s.params ∧ t.driver = s.driver

/-- R25: right after a flag-writing instruction (the ALU operations, CP, LD HL,SP+r8) F[3:0] is 0. -/
def Obligations.FlagWritersClearLowNibble : Prop :=
  ∀ (i : Instr) (s t : State), writesFlags i.form = true → i.form ≠ .popAF → s.seq = .boundary →
    execTicks i (cyclesOf s.params i.form) s = .next t → t.getF.extractLsb' 0 4 = 0

/-- R33: the latches' value at an instruction boundary never influences behaviour: two runs of one instruction that differ
in zlo and zhi alone end in states that differ at most there. -/
def Obligations.LatchesAtBoundaryAreDead : Prop :=
  ∀ (i : Instr) (s : State) (x y : Byte), s.seq = .boundary → i.form ≠ .unimplemented →
    ∃ t u : State, execTicks i (cyclesOf s.params i.form) s = .next t ∧
      execTicks i (cyclesOf s.params i.form) { s with zlo := x, zhi := y } = .next u ∧
      u = { t with zlo := u.zlo, zhi := u.zhi }

/-- R228: nothing but PUSH AF reads F[3:0]: a tick from two states that differ there alone ends in states that differ at
most there. -/
def Obligations.LowNibbleOfFlagsIsUnread : Prop :=
  ∀ (i : Instr) (s t : State) (x : BitVec 4), i.form ≠ .pushAF → exec i s = .next t →
    ∃ u : State, exec i { s with af := s.af.extractLsb' 4 12 ++ x } = .next u ∧
      u.af.extractLsb' 4 12 = t.af.extractLsb' 4 12 ∧ { u with af := t.af } = t
end

