-- ==== Sys2Proof/Laws/Bits.lean ====
section
/-! SUPPORT. Halves of a 16-bit value, and the flags byte bit by bit. -/

namespace Sys2Proof.Machine

theorem getLsbD_join (h l : Byte) (i : Nat) :
    (join h l).getLsbD i = bif i < 8 then l.getLsbD i else h.getLsbD (i - 8) := by
  have := BitVec.getLsbD_append (x := h) (y := l) (i := i)
  by_cases h8 : i < 8 <;> simp only [h8, decide_true, decide_false, cond_true, cond_false, if_true, if_false] at this ⊢ <;>
    exact this

@[simp] theorem hi_join (h l : Byte) : hi (join h l) = h := by
  apply BitVec.eq_of_getLsbD_eq
  intro i hlt
  simp [hi, getLsbD_join, hlt]

@[simp] theorem lo_join (h l : Byte) : lo (join h l) = l := by
  apply BitVec.eq_of_getLsbD_eq
  intro i hlt
  simp [lo, getLsbD_join, hlt]

@[simp] theorem join_hi_lo (w : Word) : join (hi w) (lo w) = w := by
  apply BitVec.eq_of_getLsbD_eq
  intro i hlt
  rw [getLsbD_join]
  by_cases h : i < 8
  · simp [h, lo]
  · have h8 : i - 8 < 8 := by omega
    have hs : 8 + (i - 8) = i := by omega
    simp [h, hi, h8, hs]

/-- A pair written half by half from its own halves is unchanged, and only then. -/
theorem join_inj (h l h' l' : Byte) : join h l = join h' l' ↔ h = h' ∧ l = l' := by
  constructor
  · intro e
    exact ⟨by simpa using congrArg hi e, by simpa using congrArg lo e⟩
  · rintro ⟨rfl, rfl⟩
    rfl

/-- The four flags of a flags byte are the four given, and its low nibble is 0 (R25). -/
theorem flagsByte_flags (z n h c : Bool) :
    getFlag (flagsByte z n h c) .zero = z ∧ getFlag (flagsByte z n h c) .subtract = n ∧
      getFlag (flagsByte z n h c) .halfCarry = h ∧ getFlag (flagsByte z n h c) .carry = c ∧
      (flagsByte z n h c).extractLsb' 0 4 = 0#4 := by
  cases z <;> cases n <;> cases h <;> cases c <;> decide

end Sys2Proof.Machine
end

