-- ==== Sys2Proof/Laws/PerInstr.lean ====
section
/-! SUPPORT. For each instruction: its opcode byte decodes to it (R84), and the classification of that byte (R83)
is its form. -/

namespace Sys2Proof.Laws

/-- The map of R84 and the decision procedure of R83 agree on this instruction. -/
def OpcodeByte.Statement (i : Instr) : Prop :=
  decodeOpcode i.opcode = i ∧ classify i.opcode = i.form

theorem OpcodeByte.nop : OpcodeByte.Statement .nop := ⟨rfl, by decide⟩
theorem OpcodeByte.ldPairBCImm : OpcodeByte.Statement .ldPairBCImm := ⟨rfl, by decide⟩
theorem OpcodeByte.ldIndBCA : OpcodeByte.Statement .ldIndBCA := ⟨rfl, by decide⟩
theorem OpcodeByte.unimpl03 : OpcodeByte.Statement .unimpl03 := ⟨rfl, by decide⟩
theorem OpcodeByte.unimpl04 : OpcodeByte.Statement .unimpl04 := ⟨rfl, by decide⟩
theorem OpcodeByte.unimpl05 : OpcodeByte.Statement .unimpl05 := ⟨rfl, by decide⟩
theorem OpcodeByte.ldBImm : OpcodeByte.Statement .ldBImm := ⟨rfl, by decide⟩
theorem OpcodeByte.unimpl07 : OpcodeByte.Statement .unimpl07 := ⟨rfl, by decide⟩
theorem OpcodeByte.ldAbsSP : OpcodeByte.Statement .ldAbsSP := ⟨rfl, by decide⟩
theorem OpcodeByte.unimpl09 : OpcodeByte.Statement .unimpl09 := ⟨rfl, by decide⟩
theorem OpcodeByte.ldAIndBC : OpcodeByte.Statement .ldAIndBC := ⟨rfl, by decide⟩
theorem OpcodeByte.unimpl0B : OpcodeByte.Statement .unimpl0B := ⟨rfl, by decide⟩
theorem OpcodeByte.unimpl0C : OpcodeByte.Statement .unimpl0C := ⟨rfl, by decide⟩
theorem OpcodeByte.unimpl0D : OpcodeByte.Statement .unimpl0D := ⟨rfl, by decide⟩
theorem OpcodeByte.ldCImm : OpcodeByte.Statement .ldCImm := ⟨rfl, by decide⟩
theorem OpcodeByte.unimpl0F : OpcodeByte.Statement .unimpl0F := ⟨rfl, by decide⟩
theorem OpcodeByte.unimpl10 : OpcodeByte.Statement .unimpl10 := ⟨rfl, by decide⟩
theorem OpcodeByte.ldPairDEImm : OpcodeByte.Statement .ldPairDEImm := ⟨rfl, by decide⟩
theorem OpcodeByte.ldIndDEA : OpcodeByte.Statement .ldIndDEA := ⟨rfl, by decide⟩
theorem OpcodeByte.unimpl13 : OpcodeByte.Statement .unimpl13 := ⟨rfl, by decide⟩
theorem OpcodeByte.unimpl14 : OpcodeByte.Statement .unimpl14 := ⟨rfl, by decide⟩
theorem OpcodeByte.unimpl15 : OpcodeByte.Statement .unimpl15 := ⟨rfl, by decide⟩
theorem OpcodeByte.ldDImm : OpcodeByte.Statement .ldDImm := ⟨rfl, by decide⟩
theorem OpcodeByte.unimpl17 : OpcodeByte.Statement .unimpl17 := ⟨rfl, by decide⟩
theorem OpcodeByte.unimpl18 : OpcodeByte.Statement .unimpl18 := ⟨rfl, by decide⟩
theorem OpcodeByte.unimpl19 : OpcodeByte.Statement .unimpl19 := ⟨rfl, by decide⟩
theorem OpcodeByte.ldAIndDE : OpcodeByte.Statement .ldAIndDE := ⟨rfl, by decide⟩
theorem OpcodeByte.unimpl1B : OpcodeByte.Statement .unimpl1B := ⟨rfl, by decide⟩
theorem OpcodeByte.unimpl1C : OpcodeByte.Statement .unimpl1C := ⟨rfl, by decide⟩
theorem OpcodeByte.unimpl1D : OpcodeByte.Statement .unimpl1D := ⟨rfl, by decide⟩
theorem OpcodeByte.ldEImm : OpcodeByte.Statement .ldEImm := ⟨rfl, by decide⟩
theorem OpcodeByte.unimpl1F : OpcodeByte.Statement .unimpl1F := ⟨rfl, by decide⟩
theorem OpcodeByte.unimpl20 : OpcodeByte.Statement .unimpl20 := ⟨rfl, by decide⟩
theorem OpcodeByte.ldPairHLImm : OpcodeByte.Statement .ldPairHLImm := ⟨rfl, by decide⟩
theorem OpcodeByte.ldIndHLIncA : OpcodeByte.Statement .ldIndHLIncA := ⟨rfl, by decide⟩
theorem OpcodeByte.unimpl23 : OpcodeByte.Statement .unimpl23 := ⟨rfl, by decide⟩
theorem OpcodeByte.unimpl24 : OpcodeByte.Statement .unimpl24 := ⟨rfl, by decide⟩
theorem OpcodeByte.unimpl25 : OpcodeByte.Statement .unimpl25 := ⟨rfl, by decide⟩
theorem OpcodeByte.ldHImm : OpcodeByte.Statement .ldHImm := ⟨rfl, by decide⟩
theorem OpcodeByte.unimpl27 : OpcodeByte.Statement .unimpl27 := ⟨rfl, by decide⟩
theorem OpcodeByte.unimpl28 : OpcodeByte.Statement .unimpl28 := ⟨rfl, by decide⟩
theorem OpcodeByte.unimpl29 : OpcodeByte.Statement .unimpl29 := ⟨rfl, by decide⟩
theorem OpcodeByte.ldAIndHLInc : OpcodeByte.Statement .ldAIndHLInc := ⟨rfl, by decide⟩
theorem OpcodeByte.unimpl2B : OpcodeByte.Statement .unimpl2B := ⟨rfl, by decide⟩
theorem OpcodeByte.unimpl2C : OpcodeByte.Statement .unimpl2C := ⟨rfl, by decide⟩
theorem OpcodeByte.unimpl2D : OpcodeByte.Statement .unimpl2D := ⟨rfl, by decide⟩
theorem OpcodeByte.ldLImm : OpcodeByte.Statement .ldLImm := ⟨rfl, by decide⟩
theorem OpcodeByte.unimpl2F : OpcodeByte.Statement .unimpl2F := ⟨rfl, by decide⟩
theorem OpcodeByte.unimpl30 : OpcodeByte.Statement .unimpl30 := ⟨rfl, by decide⟩
theorem OpcodeByte.ldSPImm : OpcodeByte.Statement .ldSPImm := ⟨rfl, by decide⟩
theorem OpcodeByte.ldIndHLDecA : OpcodeByte.Statement .ldIndHLDecA := ⟨rfl, by decide⟩
theorem OpcodeByte.unimpl33 : OpcodeByte.Statement .unimpl33 := ⟨rfl, by decide⟩
theorem OpcodeByte.unimpl34 : OpcodeByte.Statement .unimpl34 := ⟨rfl, by decide⟩
theorem OpcodeByte.unimpl35 : OpcodeByte.Statement .unimpl35 := ⟨rfl, by decide⟩
theorem OpcodeByte.ldIndHLImm : OpcodeByte.Statement .ldIndHLImm := ⟨rfl, by decide⟩
theorem OpcodeByte.unimpl37 : OpcodeByte.Statement .unimpl37 := ⟨rfl, by decide⟩
theorem OpcodeByte.unimpl38 : OpcodeByte.Statement .unimpl38 := ⟨rfl, by decide⟩
theorem OpcodeByte.unimpl39 : OpcodeByte.Statement .unimpl39 := ⟨rfl, by decide⟩
theorem OpcodeByte.ldAIndHLDec : OpcodeByte.Statement .ldAIndHLDec := ⟨rfl, by decide⟩
theorem OpcodeByte.unimpl3B : OpcodeByte.Statement .unimpl3B := ⟨rfl, by decide⟩
theorem OpcodeByte.unimpl3C : OpcodeByte.Statement .unimpl3C := ⟨rfl, by decide⟩
theorem OpcodeByte.unimpl3D : OpcodeByte.Statement .unimpl3D := ⟨rfl, by decide⟩
theorem OpcodeByte.ldAImm : OpcodeByte.Statement .ldAImm := ⟨rfl, by decide⟩
theorem OpcodeByte.unimpl3F : OpcodeByte.Statement .unimpl3F := ⟨rfl, by decide⟩
theorem OpcodeByte.ldBB : OpcodeByte.Statement .ldBB := ⟨rfl, by decide⟩
theorem OpcodeByte.ldBC : OpcodeByte.Statement .ldBC := ⟨rfl, by decide⟩
theorem OpcodeByte.ldBD : OpcodeByte.Statement .ldBD := ⟨rfl, by decide⟩
theorem OpcodeByte.ldBE : OpcodeByte.Statement .ldBE := ⟨rfl, by decide⟩
theorem OpcodeByte.ldBH : OpcodeByte.Statement .ldBH := ⟨rfl, by decide⟩
theorem OpcodeByte.ldBL : OpcodeByte.Statement .ldBL := ⟨rfl, by decide⟩
theorem OpcodeByte.ldBIndHL : OpcodeByte.Statement .ldBIndHL := ⟨rfl, by decide⟩
theorem OpcodeByte.ldBA : OpcodeByte.Statement .ldBA := ⟨rfl, by decide⟩
theorem OpcodeByte.ldCB : OpcodeByte.Statement .ldCB := ⟨rfl, by decide⟩
theorem OpcodeByte.ldCC : OpcodeByte.Statement .ldCC := ⟨rfl, by decide⟩
theorem OpcodeByte.ldCD : OpcodeByte.Statement .ldCD := ⟨rfl, by decide⟩
theorem OpcodeByte.ldCE : OpcodeByte.Statement .ldCE := ⟨rfl, by decide⟩
theorem OpcodeByte.ldCH : OpcodeByte.Statement .ldCH := ⟨rfl, by decide⟩
theorem OpcodeByte.ldCL : OpcodeByte.Statement .ldCL := ⟨rfl, by decide⟩
theorem OpcodeByte.ldCIndHL : OpcodeByte.Statement .ldCIndHL := ⟨rfl, by decide⟩
theorem OpcodeByte.ldCA : OpcodeByte.Statement .ldCA := ⟨rfl, by decide⟩
theorem OpcodeByte.ldDB : OpcodeByte.Statement .ldDB := ⟨rfl, by decide⟩
theorem OpcodeByte.ldDC : OpcodeByte.Statement .ldDC := ⟨rfl, by decide⟩
theorem OpcodeByte.ldDD : OpcodeByte.Statement .ldDD := ⟨rfl, by decide⟩
theorem OpcodeByte.ldDE : OpcodeByte.Statement .ldDE := ⟨rfl, by decide⟩
theorem OpcodeByte.ldDH : OpcodeByte.Statement .ldDH := ⟨rfl, by decide⟩
theorem OpcodeByte.ldDL : OpcodeByte.Statement .ldDL := ⟨rfl, by decide⟩
theorem OpcodeByte.ldDIndHL : OpcodeByte.Statement .ldDIndHL := ⟨rfl, by decide⟩
theorem OpcodeByte.ldDA : OpcodeByte.Statement .ldDA := ⟨rfl, by decide⟩
theorem OpcodeByte.ldEB : OpcodeByte.Statement .ldEB := ⟨rfl, by decide⟩
theorem OpcodeByte.ldEC : OpcodeByte.Statement .ldEC := ⟨rfl, by decide⟩
theorem OpcodeByte.ldED : OpcodeByte.Statement .ldED := ⟨rfl, by decide⟩
theorem OpcodeByte.ldEE : OpcodeByte.Statement .ldEE := ⟨rfl, by decide⟩
theorem OpcodeByte.ldEH : OpcodeByte.Statement .ldEH := ⟨rfl, by decide⟩
theorem OpcodeByte.ldEL : OpcodeByte.Statement .ldEL := ⟨rfl, by decide⟩
theorem OpcodeByte.ldEIndHL : OpcodeByte.Statement .ldEIndHL := ⟨rfl, by decide⟩
theorem OpcodeByte.ldEA : OpcodeByte.Statement .ldEA := ⟨rfl, by decide⟩
theorem OpcodeByte.ldHB : OpcodeByte.Statement .ldHB := ⟨rfl, by decide⟩
theorem OpcodeByte.ldHC : OpcodeByte.Statement .ldHC := ⟨rfl, by decide⟩
theorem OpcodeByte.ldHD : OpcodeByte.Statement .ldHD := ⟨rfl, by decide⟩
theorem OpcodeByte.ldHE : OpcodeByte.Statement .ldHE := ⟨rfl, by decide⟩
theorem OpcodeByte.ldHH : OpcodeByte.Statement .ldHH := ⟨rfl, by decide⟩
theorem OpcodeByte.ldHL : OpcodeByte.Statement .ldHL := ⟨rfl, by decide⟩
theorem OpcodeByte.ldHIndHL : OpcodeByte.Statement .ldHIndHL := ⟨rfl, by decide⟩
theorem OpcodeByte.ldHA : OpcodeByte.Statement .ldHA := ⟨rfl, by decide⟩
theorem OpcodeByte.ldLB : OpcodeByte.Statement .ldLB := ⟨rfl, by decide⟩
theorem OpcodeByte.ldLC : OpcodeByte.Statement .ldLC := ⟨rfl, by decide⟩
theorem OpcodeByte.ldLD : OpcodeByte.Statement .ldLD := ⟨rfl, by decide⟩
theorem OpcodeByte.ldLE : OpcodeByte.Statement .ldLE := ⟨rfl, by decide⟩
theorem OpcodeByte.ldLH : OpcodeByte.Statement .ldLH := ⟨rfl, by decide⟩
theorem OpcodeByte.ldLL : OpcodeByte.Statement .ldLL := ⟨rfl, by decide⟩
theorem OpcodeByte.ldLIndHL : OpcodeByte.Statement .ldLIndHL := ⟨rfl, by decide⟩
theorem OpcodeByte.ldLA : OpcodeByte.Statement .ldLA := ⟨rfl, by decide⟩
theorem OpcodeByte.ldIndHLB : OpcodeByte.Statement .ldIndHLB := ⟨rfl, by decide⟩
theorem OpcodeByte.ldIndHLC : OpcodeByte.Statement .ldIndHLC := ⟨rfl, by decide⟩
theorem OpcodeByte.ldIndHLD : OpcodeByte.Statement .ldIndHLD := ⟨rfl, by decide⟩
theorem OpcodeByte.ldIndHLE : OpcodeByte.Statement .ldIndHLE := ⟨rfl, by decide⟩
theorem OpcodeByte.ldIndHLH : OpcodeByte.Statement .ldIndHLH := ⟨rfl, by decide⟩
theorem OpcodeByte.ldIndHLL : OpcodeByte.Statement .ldIndHLL := ⟨rfl, by decide⟩
theorem OpcodeByte.unimpl76 : OpcodeByte.Statement .unimpl76 := ⟨rfl, by decide⟩
theorem OpcodeByte.ldIndHLA : OpcodeByte.Statement .ldIndHLA := ⟨rfl, by decide⟩
theorem OpcodeByte.ldAB : OpcodeByte.Statement .ldAB := ⟨rfl, by decide⟩
theorem OpcodeByte.ldAC : OpcodeByte.Statement .ldAC := ⟨rfl, by decide⟩
theorem OpcodeByte.ldAD : OpcodeByte.Statement .ldAD := ⟨rfl, by decide⟩
theorem OpcodeByte.ldAE : OpcodeByte.Statement .ldAE := ⟨rfl, by decide⟩
theorem OpcodeByte.ldAH : OpcodeByte.Statement .ldAH := ⟨rfl, by decide⟩
theorem OpcodeByte.ldAL : OpcodeByte.Statement .ldAL := ⟨rfl, by decide⟩
theorem OpcodeByte.ldAIndHL : OpcodeByte.Statement .ldAIndHL := ⟨rfl, by decide⟩
theorem OpcodeByte.ldAA : OpcodeByte.Statement .ldAA := ⟨rfl, by decide⟩
theorem OpcodeByte.addB : OpcodeByte.Statement .addB := ⟨rfl, by decide⟩
theorem OpcodeByte.addC : OpcodeByte.Statement .addC := ⟨rfl, by decide⟩
theorem OpcodeByte.addD : OpcodeByte.Statement .addD := ⟨rfl, by decide⟩
theorem OpcodeByte.addE : OpcodeByte.Statement .addE := ⟨rfl, by decide⟩
theorem OpcodeByte.addH : OpcodeByte.Statement .addH := ⟨rfl, by decide⟩
theorem OpcodeByte.addL : OpcodeByte.Statement .addL := ⟨rfl, by decide⟩
theorem OpcodeByte.unimpl86 : OpcodeByte.Statement .unimpl86 := ⟨rfl, by decide⟩
theorem OpcodeByte.addA : OpcodeByte.Statement .addA := ⟨rfl, by decide⟩
theorem OpcodeByte.adcB : OpcodeByte.Statement .adcB := ⟨rfl, by decide⟩
theorem OpcodeByte.adcC : OpcodeByte.Statement .adcC := ⟨rfl, by decide⟩
theorem OpcodeByte.adcD : OpcodeByte.Statement .adcD := ⟨rfl, by decide⟩
theorem OpcodeByte.adcE : OpcodeByte.Statement .adcE := ⟨rfl, by decide⟩
theorem OpcodeByte.adcH : OpcodeByte.Statement .adcH := ⟨rfl, by decide⟩
theorem OpcodeByte.adcL : OpcodeByte.Statement .adcL := ⟨rfl, by decide⟩
theorem OpcodeByte.unimpl8E : OpcodeByte.Statement .unimpl8E := ⟨rfl, by decide⟩
theorem OpcodeByte.adcA : OpcodeByte.Statement .adcA := ⟨rfl, by decide⟩
theorem OpcodeByte.subB : OpcodeByte.Statement .subB := ⟨rfl, by decide⟩
theorem OpcodeByte.subC : OpcodeByte.Statement .subC := ⟨rfl, by decide⟩
theorem OpcodeByte.subD : OpcodeByte.Statement .subD := ⟨rfl, by decide⟩
theorem OpcodeByte.subE : OpcodeByte.Statement .subE := ⟨rfl, by decide⟩
theorem OpcodeByte.subH : OpcodeByte.Statement .subH := ⟨rfl, by decide⟩
theorem OpcodeByte.subL : OpcodeByte.Statement .subL := ⟨rfl, by decide⟩
theorem OpcodeByte.unimpl96 : OpcodeByte.Statement .unimpl96 := ⟨rfl, by decide⟩
theorem OpcodeByte.subA : OpcodeByte.Statement .subA := ⟨rfl, by decide⟩
theorem OpcodeByte.sbcB : OpcodeByte.Statement .sbcB := ⟨rfl, by decide⟩
theorem OpcodeByte.sbcC : OpcodeByte.Statement .sbcC := ⟨rfl, by decide⟩
theorem OpcodeByte.sbcD : OpcodeByte.Statement .sbcD := ⟨rfl, by decide⟩
theorem OpcodeByte.sbcE : OpcodeByte.Statement .sbcE := ⟨rfl, by decide⟩
theorem OpcodeByte.sbcH : OpcodeByte.Statement .sbcH := ⟨rfl, by decide⟩
theorem OpcodeByte.sbcL : OpcodeByte.Statement .sbcL := ⟨rfl, by decide⟩
theorem OpcodeByte.unimpl9E : OpcodeByte.Statement .unimpl9E := ⟨rfl, by decide⟩
theorem OpcodeByte.sbcA : OpcodeByte.Statement .sbcA := ⟨rfl, by decide⟩
theorem OpcodeByte.andB : OpcodeByte.Statement .andB := ⟨rfl, by decide⟩
theorem OpcodeByte.andC : OpcodeByte.Statement .andC := ⟨rfl, by decide⟩
theorem OpcodeByte.andD : OpcodeByte.Statement .andD := ⟨rfl, by decide⟩
theorem OpcodeByte.andE : OpcodeByte.Statement .andE := ⟨rfl, by decide⟩
theorem OpcodeByte.andH : OpcodeByte.Statement .andH := ⟨rfl, by decide⟩
theorem OpcodeByte.andL : OpcodeByte.Statement .andL := ⟨rfl, by decide⟩
theorem OpcodeByte.unimplA6 : OpcodeByte.Statement .unimplA6 := ⟨rfl, by decide⟩
theorem OpcodeByte.andA : OpcodeByte.Statement .andA := ⟨rfl, by decide⟩
theorem OpcodeByte.xorB : OpcodeByte.Statement .xorB := ⟨rfl, by decide⟩
theorem OpcodeByte.xorC : OpcodeByte.Statement .xorC := ⟨rfl, by decide⟩
theorem OpcodeByte.xorD : OpcodeByte.Statement .xorD := ⟨rfl, by decide⟩
theorem OpcodeByte.xorE : OpcodeByte.Statement .xorE := ⟨rfl, by decide⟩
theorem OpcodeByte.xorH : OpcodeByte.Statement .xorH := ⟨rfl, by decide⟩
theorem OpcodeByte.xorL : OpcodeByte.Statement .xorL := ⟨rfl, by decide⟩
theorem OpcodeByte.unimplAE : OpcodeByte.Statement .unimplAE := ⟨rfl, by decide⟩
theorem OpcodeByte.xorA : OpcodeByte.Statement .xorA := ⟨rfl, by decide⟩
theorem OpcodeByte.orB : OpcodeByte.Statement .orB := ⟨rfl, by decide⟩
theorem OpcodeByte.orC : OpcodeByte.Statement .orC := ⟨rfl, by decide⟩
theorem OpcodeByte.orD : OpcodeByte.Statement .orD := ⟨rfl, by decide⟩
theorem OpcodeByte.orE : OpcodeByte.Statement .orE := ⟨rfl, by decide⟩
theorem OpcodeByte.orH : OpcodeByte.Statement .orH := ⟨rfl, by decide⟩
theorem OpcodeByte.orL : OpcodeByte.Statement .orL := ⟨rfl, by decide⟩
theorem OpcodeByte.unimplB6 : OpcodeByte.Statement .unimplB6 := ⟨rfl, by decide⟩
theorem OpcodeByte.orA : OpcodeByte.Statement .orA := ⟨rfl, by decide⟩
theorem OpcodeByte.cpB : OpcodeByte.Statement .cpB := ⟨rfl, by decide⟩
theorem OpcodeByte.cpC : OpcodeByte.Statement .cpC := ⟨rfl, by decide⟩
theorem OpcodeByte.cpD : OpcodeByte.Statement .cpD := ⟨rfl, by decide⟩
theorem OpcodeByte.cpE : OpcodeByte.Statement .cpE := ⟨rfl, by decide⟩
theorem OpcodeByte.cpH : OpcodeByte.Statement .cpH := ⟨rfl, by decide⟩
theorem OpcodeByte.cpL : OpcodeByte.Statement .cpL := ⟨rfl, by decide⟩
theorem OpcodeByte.unimplBE : OpcodeByte.Statement .unimplBE := ⟨rfl, by decide⟩
theorem OpcodeByte.cpA : OpcodeByte.Statement .cpA := ⟨rfl, by decide⟩
theorem OpcodeByte.unimplC0 : OpcodeByte.Statement .unimplC0 := ⟨rfl, by decide⟩
theorem OpcodeByte.popBC : OpcodeByte.Statement .popBC := ⟨rfl, by decide⟩
theorem OpcodeByte.unimplC2 : OpcodeByte.Statement .unimplC2 := ⟨rfl, by decide⟩
theorem OpcodeByte.unimplC3 : OpcodeByte.Statement .unimplC3 := ⟨rfl, by decide⟩
theorem OpcodeByte.unimplC4 : OpcodeByte.Statement .unimplC4 := ⟨rfl, by decide⟩
theorem OpcodeByte.pushBC : OpcodeByte.Statement .pushBC := ⟨rfl, by decide⟩
theorem OpcodeByte.unimplC6 : OpcodeByte.Statement .unimplC6 := ⟨rfl, by decide⟩
theorem OpcodeByte.unimplC7 : OpcodeByte.Statement .unimplC7 := ⟨rfl, by decide⟩
theorem OpcodeByte.unimplC8 : OpcodeByte.Statement .unimplC8 := ⟨rfl, by decide⟩
theorem OpcodeByte.unimplC9 : OpcodeByte.Statement .unimplC9 := ⟨rfl, by decide⟩
theorem OpcodeByte.unimplCA : OpcodeByte.Statement .unimplCA := ⟨rfl, by decide⟩
theorem OpcodeByte.unimplCB : OpcodeByte.Statement .unimplCB := ⟨rfl, by decide⟩
theorem OpcodeByte.unimplCC : OpcodeByte.Statement .unimplCC := ⟨rfl, by decide⟩
theorem OpcodeByte.unimplCD : OpcodeByte.Statement .unimplCD := ⟨rfl, by decide⟩
theorem OpcodeByte.unimplCE : OpcodeByte.Statement .unimplCE := ⟨rfl, by decide⟩
theorem OpcodeByte.unimplCF : OpcodeByte.Statement .unimplCF := ⟨rfl, by decide⟩
theorem OpcodeByte.unimplD0 : OpcodeByte.Statement .unimplD0 := ⟨rfl, by decide⟩
theorem OpcodeByte.popDE : OpcodeByte.Statement .popDE := ⟨rfl, by decide⟩
theorem OpcodeByte.unimplD2 : OpcodeByte.Statement .unimplD2 := ⟨rfl, by decide⟩
theorem OpcodeByte.unimplD3 : OpcodeByte.Statement .unimplD3 := ⟨rfl, by decide⟩
theorem OpcodeByte.unimplD4 : OpcodeByte.Statement .unimplD4 := ⟨rfl, by decide⟩
theorem OpcodeByte.pushDE : OpcodeByte.Statement .pushDE := ⟨rfl, by decide⟩
theorem OpcodeByte.unimplD6 : OpcodeByte.Statement .unimplD6 := ⟨rfl, by decide⟩
theorem OpcodeByte.unimplD7 : OpcodeByte.Statement .unimplD7 := ⟨rfl, by decide⟩
theorem OpcodeByte.unimplD8 : OpcodeByte.Statement .unimplD8 := ⟨rfl, by decide⟩
theorem OpcodeByte.unimplD9 : OpcodeByte.Statement .unimplD9 := ⟨rfl, by decide⟩
theorem OpcodeByte.unimplDA : OpcodeByte.Statement .unimplDA := ⟨rfl, by decide⟩
theorem OpcodeByte.unimplDB : OpcodeByte.Statement .unimplDB := ⟨rfl, by decide⟩
theorem OpcodeByte.unimplDC : OpcodeByte.Statement .unimplDC := ⟨rfl, by decide⟩
theorem OpcodeByte.unimplDD : OpcodeByte.Statement .unimplDD := ⟨rfl, by decide⟩
theorem OpcodeByte.unimplDE : OpcodeByte.Statement .unimplDE := ⟨rfl, by decide⟩
theorem OpcodeByte.unimplDF : OpcodeByte.Statement .unimplDF := ⟨rfl, by decide⟩
theorem OpcodeByte.ldhImmA : OpcodeByte.Statement .ldhImmA := ⟨rfl, by decide⟩
theorem OpcodeByte.popHL : OpcodeByte.Statement .popHL := ⟨rfl, by decide⟩
theorem OpcodeByte.ldIndCA : OpcodeByte.Statement .ldIndCA := ⟨rfl, by decide⟩
theorem OpcodeByte.unimplE3 : OpcodeByte.Statement .unimplE3 := ⟨rfl, by decide⟩
theorem OpcodeByte.unimplE4 : OpcodeByte.Statement .unimplE4 := ⟨rfl, by decide⟩
theorem OpcodeByte.pushHL : OpcodeByte.Statement .pushHL := ⟨rfl, by decide⟩
theorem OpcodeByte.unimplE6 : OpcodeByte.Statement .unimplE6 := ⟨rfl, by decide⟩
theorem OpcodeByte.unimplE7 : OpcodeByte.Statement .unimplE7 := ⟨rfl, by decide⟩
theorem OpcodeByte.unimplE8 : OpcodeByte.Statement .unimplE8 := ⟨rfl, by decide⟩
theorem OpcodeByte.unimplE9 : OpcodeByte.Statement .unimplE9 := ⟨rfl, by decide⟩
theorem OpcodeByte.ldAbsA : OpcodeByte.Statement .ldAbsA := ⟨rfl, by decide⟩
theorem OpcodeByte.unimplEB : OpcodeByte.Statement .unimplEB := ⟨rfl, by decide⟩
theorem OpcodeByte.unimplEC : OpcodeByte.Statement .unimplEC := ⟨rfl, by decide⟩
theorem OpcodeByte.unimplED : OpcodeByte.Statement .unimplED := ⟨rfl, by decide⟩
theorem OpcodeByte.unimplEE : OpcodeByte.Statement .unimplEE := ⟨rfl, by decide⟩
theorem OpcodeByte.unimplEF : OpcodeByte.Statement .unimplEF := ⟨rfl, by decide⟩
theorem OpcodeByte.ldhAImm : OpcodeByte.Statement .ldhAImm := ⟨rfl, by decide⟩
theorem OpcodeByte.popAF : OpcodeByte.Statement .popAF := ⟨rfl, by decide⟩
theorem OpcodeByte.ldAIndC : OpcodeByte.Statement .ldAIndC := ⟨rfl, by decide⟩
theorem OpcodeByte.unimplF3 : OpcodeByte.Statement .unimplF3 := ⟨rfl, by decide⟩
theorem OpcodeByte.unimplF4 : OpcodeByte.Statement .unimplF4 := ⟨rfl, by decide⟩
theorem OpcodeByte.pushAF : OpcodeByte.Statement .pushAF := ⟨rfl, by decide⟩
theorem OpcodeByte.unimplF6 : OpcodeByte.Statement .unimplF6 := ⟨rfl, by decide⟩
theorem OpcodeByte.unimplF7 : OpcodeByte.Statement .unimplF7 := ⟨rfl, by decide⟩
theorem OpcodeByte.ldHLSPImm : OpcodeByte.Statement .ldHLSPImm := ⟨rfl, by decide⟩
theorem OpcodeByte.ldSPHL : OpcodeByte.Statement .ldSPHL := ⟨rfl, by decide⟩
theorem OpcodeByte.ldAAbs : OpcodeByte.Statement .ldAAbs := ⟨rfl, by decide⟩
theorem OpcodeByte.unimplFB : OpcodeByte.Statement .unimplFB := ⟨rfl, by decide⟩
theorem OpcodeByte.unimplFC : OpcodeByte.Statement .unimplFC := ⟨rfl, by decide⟩
theorem OpcodeByte.unimplFD : OpcodeByte.Statement .unimplFD := ⟨rfl, by decide⟩
theorem OpcodeByte.unimplFE : OpcodeByte.Statement .unimplFE := ⟨rfl, by decide⟩
theorem OpcodeByte.unimplFF : OpcodeByte.Statement .unimplFF := ⟨rfl, by decide⟩

end Sys2Proof.Laws
end

