-- ==== Sys2Proof/Laws/Decode.lean ====
section
/-! SUPPORT. Opcode bytes and instructions correspond one to one. -/

namespace Sys2Proof

/-- The opcode byte of an instruction decodes to it. -/
theorem decodeOpcode_opcode (i : Instr) : decodeOpcode i.opcode = i := by
  cases i <;> rfl

/-- The classification of R83 gives an instruction's form. -/
theorem classify_opcode (i : Instr) : classify i.opcode = i.form := by
  cases i <;> decide

theorem opcode_decodeOpcode_ofNat : ∀ n : Fin 256, (decodeOpcode (BitVec.ofFin n)).opcode = BitVec.ofFin n := by
  decide +kernel

/-- Every byte is the opcode of the instruction it decodes to. -/
theorem opcode_decodeOpcode (b : Byte) : (decodeOpcode b).opcode = b :=
  opcode_decodeOpcode_ofNat b.toFin

end Sys2Proof
end

