-- ==== Sys2Proof/Laws/Memory.lean ====
section
/-! SUPPORT. The laws of memory: the canonical form is kept, and a read after a write. -/

namespace Sys2Proof.Machine

theorem Memory.wfFrom_cons (n a : Nat) (v : Byte) (t : Memory) :
    Memory.wfFrom n ((a, v) :: t) = true ↔
      n ≤ a ∧ a < 65536 ∧ v ≠ Memory.unlisted ∧ Memory.wfFrom (a + 1) t = true := by
  simp [Memory.wfFrom, and_assoc]

theorem Memory.wfFrom_mono {n k : Nat} {m : Memory} (h : m.wfFrom k = true) (hn : n ≤ k) : m.wfFrom n = true := by
  cases m with
  | nil => rfl
  | cons c t =>
    obtain ⟨a, v⟩ := c
    rw [Memory.wfFrom_cons] at h ⊢
    exact ⟨by omega, h.2⟩

/-- A canonical memory whose keys start above `k` reads as unlisted at `k`. -/
theorem Memory.readKey_below {m : Memory} {n k : Nat} (h : m.wfFrom n = true) (hk : k < n) :
    m.readKey k = Memory.unlisted := by
  induction m generalizing n with
  | nil => rfl
  | cons c t ih =>
    obtain ⟨a, v⟩ := c
    rw [Memory.wfFrom_cons] at h
    have hne : a ≠ k := by omega
    simpa [Memory.readKey, hne] using ih h.2.2.2 (by omega)

theorem Memory.wfFrom_cell_append {k n : Nat} {v : Byte} {t : Memory} (hk : k < 65536) (hn : n ≤ k)
    (h : t.wfFrom (k + 1) = true) : (Memory.cell k v ++ t).wfFrom n = true := by
  unfold Memory.cell
  split
  · exact Memory.wfFrom_mono h (by omega)
  · rename_i hv
    exact (Memory.wfFrom_cons n k v t).mpr ⟨hn, hk, hv, h⟩

theorem Memory.wfFrom_writeKey {m : Memory} {n k : Nat} (v : Byte) (h : m.wfFrom n = true) (hk : k < 65536)
    (hn : n ≤ k) : (m.writeKey k v).wfFrom n = true := by
  induction m generalizing n with
  | nil =>
    have := Memory.wfFrom_cell_append (v := v) (t := []) hk hn rfl
    simpa [Memory.writeKey] using this
  | cons c t ih =>
    obtain ⟨a, w⟩ := c
    have h' := (Memory.wfFrom_cons n a w t).mp h
    unfold Memory.writeKey
    split
    · exact (Memory.wfFrom_cons n a w _).mpr ⟨h'.1, h'.2.1, h'.2.2.1, ih h'.2.2.2 (by omega)⟩
    · split
      · rename_i ha
        exact Memory.wfFrom_cell_append hk hn (ha ▸ h'.2.2.2)
      · refine Memory.wfFrom_cell_append hk hn ?_
        exact (Memory.wfFrom_cons (k + 1) a w t).mpr ⟨by omega, h'.2⟩

/-- A memory write keeps the canonical form. -/
theorem Memory.wf_write {m : Memory} (a : Word) (v : Byte) (h : m.wf = true) : (m.write a v).wf = true :=
  Memory.wfFrom_writeKey v h a.isLt (Nat.zero_le _)

theorem Memory.readKey_cell_append {k j : Nat} {v : Byte} {t : Memory} (h : t.wfFrom (k + 1) = true) :
    (Memory.cell k v ++ t).readKey j = if k = j then v else t.readKey j := by
  unfold Memory.cell
  split
  · rename_i hv
    split
    · rename_i hkj
      rw [hv]
      exact Memory.readKey_below h (by omega)
    · rfl
  · simp [Memory.readKey]

/-- What a canonical memory reads as, key by key, after a write. -/
theorem Memory.readKey_writeKey {m : Memory} {n : Nat} (k j : Nat) (v : Byte) (h : m.wfFrom n = true) :
    (m.writeKey k v).readKey j = if k = j then v else m.readKey j := by
  induction m generalizing n with
  | nil => simpa [Memory.writeKey] using Memory.readKey_cell_append (k := k) (j := j) (v := v) (t := []) rfl
  | cons c t ih =>
    obtain ⟨a, w⟩ := c
    have h' := (Memory.wfFrom_cons n a w t).mp h
    unfold Memory.writeKey
    split
    · rename_i hak
      by_cases haj : a = j
      · have hkj : k ≠ j := by omega
        simp [Memory.readKey, haj, hkj]
      · simp [Memory.readKey, haj, ih h'.2.2.2]
    · split
      · rename_i ha
        subst ha
        rw [Memory.readKey_cell_append h'.2.2.2]
        by_cases hj : a = j <;> simp [Memory.readKey, hj]
      · refine Memory.readKey_cell_append ?_
        exact (Memory.wfFrom_cons (k + 1) a w t).mpr ⟨by omega, h'.2⟩

/-- The write of a state keeps its memory canonical. -/
theorem State.store_wf {s : State} (a : Word) (v : Byte) (h : s.mem.wf = true) : (s.store a v).mem.wf = true :=
  Memory.wf_write a v h

end Sys2Proof.Machine
end

