-- ==== Sys2Proof/Laws/State.lean ====
section
/-! SUPPORT. One lemma for each field under each update of the state, so that no proof unfolds a record update. -/

namespace Sys2Proof.Machine

/-! ### Pairs and halves -/

@[simp] theorem State.setPair_sp (s : State) (p : Pair) (v : Word) : (s.setPair p v).sp = s.sp := by cases p <;> rfl
@[simp] theorem State.setHi_sp (s : State) (p : Pair) (v : Byte) : (s.setHi p v).sp = s.sp := by cases p <;> rfl
@[simp] theorem State.setLo_sp (s : State) (p : Pair) (v : Byte) : (s.setLo p v).sp = s.sp := by cases p <;> rfl
@[simp] theorem State.setR8_sp (s : State) (r : Reg8) (v : Byte) : (s.setR8 r v).sp = s.sp := by cases r <;> rfl
@[simp] theorem State.setPair_pc (s : State) (p : Pair) (v : Word) : (s.setPair p v).pc = s.pc := by cases p <;> rfl
@[simp] theorem State.setHi_pc (s : State) (p : Pair) (v : Byte) : (s.setHi p v).pc = s.pc := by cases p <;> rfl
@[simp] theorem State.setLo_pc (s : State) (p : Pair) (v : Byte) : (s.setLo p v).pc = s.pc := by cases p <;> rfl
@[simp] theorem State.setR8_pc (s : State) (r : Reg8) (v : Byte) : (s.setR8 r v).pc = s.pc := by cases r <;> rfl
@[simp] theorem State.setPair_opcode (s : State) (p : Pair) (v : Word) : (s.setPair p v).opcode = s.opcode := by cases p <;> rfl
@[simp] theorem State.setHi_opcode (s : State) (p : Pair) (v : Byte) : (s.setHi p v).opcode = s.opcode := by cases p <;> rfl
@[simp] theorem State.setLo_opcode (s : State) (p : Pair) (v : Byte) : (s.setLo p v).opcode = s.opcode := by cases p <;> rfl
@[simp] theorem State.setR8_opcode (s : State) (r : Reg8) (v : Byte) : (s.setR8 r v).opcode = s.opcode := by cases r <;> rfl
@[simp] theorem State.setPair_seq (s : State) (p : Pair) (v : Word) : (s.setPair p v).seq = s.seq := by cases p <;> rfl
@[simp] theorem State.setHi_seq (s : State) (p : Pair) (v : Byte) : (s.setHi p v).seq = s.seq := by cases p <;> rfl
@[simp] theorem State.setLo_seq (s : State) (p : Pair) (v : Byte) : (s.setLo p v).seq = s.seq := by cases p <;> rfl
@[simp] theorem State.setR8_seq (s : State) (r : Reg8) (v : Byte) : (s.setR8 r v).seq = s.seq := by cases r <;> rfl
@[simp] theorem State.setPair_zlo (s : State) (p : Pair) (v : Word) : (s.setPair p v).zlo = s.zlo := by cases p <;> rfl
@[simp] theorem State.setHi_zlo (s : State) (p : Pair) (v : Byte) : (s.setHi p v).zlo = s.zlo := by cases p <;> rfl
@[simp] theorem State.setLo_zlo (s : State) (p : Pair) (v : Byte) : (s.setLo p v).zlo = s.zlo := by cases p <;> rfl
@[simp] theorem State.setR8_zlo (s : State) (r : Reg8) (v : Byte) : (s.setR8 r v).zlo = s.zlo := by cases r <;> rfl
@[simp] theorem State.setPair_zhi (s : State) (p : Pair) (v : Word) : (s.setPair p v).zhi = s.zhi := by cases p <;> rfl
@[simp] theorem State.setHi_zhi (s : State) (p : Pair) (v : Byte) : (s.setHi p v).zhi = s.zhi := by cases p <;> rfl
@[simp] theorem State.setLo_zhi (s : State) (p : Pair) (v : Byte) : (s.setLo p v).zhi = s.zhi := by cases p <;> rfl
@[simp] theorem State.setR8_zhi (s : State) (r : Reg8) (v : Byte) : (s.setR8 r v).zhi = s.zhi := by cases r <;> rfl
@[simp] theorem State.setPair_mem (s : State) (p : Pair) (v : Word) : (s.setPair p v).mem = s.mem := by cases p <;> rfl
@[simp] theorem State.setHi_mem (s : State) (p : Pair) (v : Byte) : (s.setHi p v).mem = s.mem := by cases p <;> rfl
@[simp] theorem State.setLo_mem (s : State) (p : Pair) (v : Byte) : (s.setLo p v).mem = s.mem := by cases p <;> rfl
@[simp] theorem State.setR8_mem (s : State) (r : Reg8) (v : Byte) : (s.setR8 r v).mem = s.mem := by cases r <;> rfl
@[simp] theorem State.setPair_params (s : State) (p : Pair) (v : Word) : (s.setPair p v).params = s.params := by cases p <;> rfl
@[simp] theorem State.setHi_params (s : State) (p : Pair) (v : Byte) : (s.setHi p v).params = s.params := by cases p <;> rfl
@[simp] theorem State.setLo_params (s : State) (p : Pair) (v : Byte) : (s.setLo p v).params = s.params := by cases p <;> rfl
@[simp] theorem State.setR8_params (s : State) (r : Reg8) (v : Byte) : (s.setR8 r v).params = s.params := by cases r <;> rfl
@[simp] theorem State.setPair_draws (s : State) (p : Pair) (v : Word) : (s.setPair p v).draws = s.draws := by cases p <;> rfl
@[simp] theorem State.setHi_draws (s : State) (p : Pair) (v : Byte) : (s.setHi p v).draws = s.draws := by cases p <;> rfl
@[simp] theorem State.setLo_draws (s : State) (p : Pair) (v : Byte) : (s.setLo p v).draws = s.draws := by cases p <;> rfl
@[simp] theorem State.setR8_draws (s : State) (r : Reg8) (v : Byte) : (s.setR8 r v).draws = s.draws := by cases r <;> rfl
@[simp] theorem State.setPair_driver (s : State) (p : Pair) (v : Word) : (s.setPair p v).driver = s.driver := by cases p <;> rfl
@[simp] theorem State.setHi_driver (s : State) (p : Pair) (v : Byte) : (s.setHi p v).driver = s.driver := by cases p <;> rfl
@[simp] theorem State.setLo_driver (s : State) (p : Pair) (v : Byte) : (s.setLo p v).driver = s.driver := by cases p <;> rfl
@[simp] theorem State.setR8_driver (s : State) (r : Reg8) (v : Byte) : (s.setR8 r v).driver = s.driver := by cases r <;> rfl
@[simp] theorem State.setF_bc (s : State) (v : Byte) : (s.setF v).bc = s.bc := rfl
@[simp] theorem State.setFlags_bc (s : State) (z n h c : Bool) : (s.setFlags z n h c).bc = s.bc := rfl
@[simp] theorem State.setF_de (s : State) (v : Byte) : (s.setF v).de = s.de := rfl
@[simp] theorem State.setFlags_de (s : State) (z n h c : Bool) : (s.setFlags z n h c).de = s.de := rfl
@[simp] theorem State.setF_hl (s : State) (v : Byte) : (s.setF v).hl = s.hl := rfl
@[simp] theorem State.setFlags_hl (s : State) (z n h c : Bool) : (s.setFlags z n h c).hl = s.hl := rfl
@[simp] theorem State.setF_sp (s : State) (v : Byte) : (s.setF v).sp = s.sp := rfl
@[simp] theorem State.setFlags_sp (s : State) (z n h c : Bool) : (s.setFlags z n h c).sp = s.sp := rfl
@[simp] theorem State.setF_pc (s : State) (v : Byte) : (s.setF v).pc = s.pc := rfl
@[simp] theorem State.setFlags_pc (s : State) (z n h c : Bool) : (s.setFlags z n h c).pc = s.pc := rfl
@[simp] theorem State.setF_opcode (s : State) (v : Byte) : (s.setF v).opcode = s.opcode := rfl
@[simp] theorem State.setFlags_opcode (s : State) (z n h c : Bool) : (s.setFlags z n h c).opcode = s.opcode := rfl
@[simp] theorem State.setF_seq (s : State) (v : Byte) : (s.setF v).seq = s.seq := rfl
@[simp] theorem State.setFlags_seq (s : State) (z n h c : Bool) : (s.setFlags z n h c).seq = s.seq := rfl
@[simp] theorem State.setF_zlo (s : State) (v : Byte) : (s.setF v).zlo = s.zlo := rfl
@[simp] theorem State.setFlags_zlo (s : State) (z n h c : Bool) : (s.setFlags z n h c).zlo = s.zlo := rfl
@[simp] theorem State.setF_zhi (s : State) (v : Byte) : (s.setF v).zhi = s.zhi := rfl
@[simp] theorem State.setFlags_zhi (s : State) (z n h c : Bool) : (s.setFlags z n h c).zhi = s.zhi := rfl
@[simp] theorem State.setF_mem (s : State) (v : Byte) : (s.setF v).mem = s.mem := rfl
@[simp] theorem State.setFlags_mem (s : State) (z n h c : Bool) : (s.setFlags z n h c).mem = s.mem := rfl
@[simp] theorem State.setF_params (s : State) (v : Byte) : (s.setF v).params = s.params := rfl
@[simp] theorem State.setFlags_params (s : State) (z n h c : Bool) : (s.setFlags z n h c).params = s.params := rfl
@[simp] theorem State.setF_draws (s : State) (v : Byte) : (s.setF v).draws = s.draws := rfl
@[simp] theorem State.setFlags_draws (s : State) (z n h c : Bool) : (s.setFlags z n h c).draws = s.draws := rfl
@[simp] theorem State.setF_driver (s : State) (v : Byte) : (s.setF v).driver = s.driver := rfl
@[simp] theorem State.setFlags_driver (s : State) (z n h c : Bool) : (s.setFlags z n h c).driver = s.driver := rfl
@[simp] theorem State.setF_af (s : State) (v : Byte) : (s.setF v).af = join (hi s.af) v := rfl
@[simp] theorem State.setFlags_af (s : State) (z n h c : Bool) : (s.setFlags z n h c).af = join (hi s.af) (flagsByte z n h c) := rfl
@[simp] theorem State.setPair_bc_bc (s : State) (v : Word) : (s.setPair .bc v).bc = v := rfl
@[simp] theorem State.setPair_bc_de (s : State) (v : Word) : (s.setPair .bc v).de = s.de := rfl
@[simp] theorem State.setPair_bc_hl (s : State) (v : Word) : (s.setPair .bc v).hl = s.hl := rfl
@[simp] theorem State.setPair_bc_af (s : State) (v : Word) : (s.setPair .bc v).af = s.af := rfl
@[simp] theorem State.setPair_de_bc (s : State) (v : Word) : (s.setPair .de v).bc = s.bc := rfl
@[simp] theorem State.setPair_de_de (s : State) (v : Word) : (s.setPair .de v).de = v := rfl
@[simp] theorem State.setPair_de_hl (s : State) (v : Word) : (s.setPair .de v).hl = s.hl := rfl
@[simp] theorem State.setPair_de_af (s : State) (v : Word) : (s.setPair .de v).af = s.af := rfl
@[simp] theorem State.setPair_hl_bc (s : State) (v : Word) : (s.setPair .hl v).bc = s.bc := rfl
@[simp] theorem State.setPair_hl_de (s : State) (v : Word) : (s.setPair .hl v).de = s.de := rfl
@[simp] theorem State.setPair_hl_hl (s : State) (v : Word) : (s.setPair .hl v).hl = v := rfl
@[simp] theorem State.setPair_hl_af (s : State) (v : Word) : (s.setPair .hl v).af = s.af := rfl
@[simp] theorem State.setPair_af_bc (s : State) (v : Word) : (s.setPair .af v).bc = s.bc := rfl
@[simp] theorem State.setPair_af_de (s : State) (v : Word) : (s.setPair .af v).de = s.de := rfl
@[simp] theorem State.setPair_af_hl (s : State) (v : Word) : (s.setPair .af v).hl = s.hl := rfl
@[simp] theorem State.setPair_af_af (s : State) (v : Word) : (s.setPair .af v).af = v := rfl
@[simp] theorem State.setR8_b_bc (s : State) (v : Byte) : (s.setR8 .b v).bc = join v (lo s.bc) := rfl
@[simp] theorem State.setR8_b_de (s : State) (v : Byte) : (s.setR8 .b v).de = s.de := rfl
@[simp] theorem State.setR8_b_hl (s : State) (v : Byte) : (s.setR8 .b v).hl = s.hl := rfl
@[simp] theorem State.setR8_b_af (s : State) (v : Byte) : (s.setR8 .b v).af = s.af := rfl
@[simp] theorem State.getR8_b (s : State) : s.getR8 .b = hi s.bc := rfl
@[simp] theorem State.setR8_c_bc (s : State) (v : Byte) : (s.setR8 .c v).bc = join (hi s.bc) v := rfl
@[simp] theorem State.setR8_c_de (s : State) (v : Byte) : (s.setR8 .c v).de = s.de := rfl
@[simp] theorem State.setR8_c_hl (s : State) (v : Byte) : (s.setR8 .c v).hl = s.hl := rfl
@[simp] theorem State.setR8_c_af (s : State) (v : Byte) : (s.setR8 .c v).af = s.af := rfl
@[simp] theorem State.getR8_c (s : State) : s.getR8 .c = lo s.bc := rfl
@[simp] theorem State.setR8_d_bc (s : State) (v : Byte) : (s.setR8 .d v).bc = s.bc := rfl
@[simp] theorem State.setR8_d_de (s : State) (v : Byte) : (s.setR8 .d v).de = join v (lo s.de) := rfl
@[simp] theorem State.setR8_d_hl (s : State) (v : Byte) : (s.setR8 .d v).hl = s.hl := rfl
@[simp] theorem State.setR8_d_af (s : State) (v : Byte) : (s.setR8 .d v).af = s.af := rfl
@[simp] theorem State.getR8_d (s : State) : s.getR8 .d = hi s.de := rfl
@[simp] theorem State.setR8_e_bc (s : State) (v : Byte) : (s.setR8 .e v).bc = s.bc := rfl
@[simp] theorem State.setR8_e_de (s : State) (v : Byte) : (s.setR8 .e v).de = join (hi s.de) v := rfl
@[simp] theorem State.setR8_e_hl (s : State) (v : Byte) : (s.setR8 .e v).hl = s.hl := rfl
@[simp] theorem State.setR8_e_af (s : State) (v : Byte) : (s.setR8 .e v).af = s.af := rfl
@[simp] theorem State.getR8_e (s : State) : s.getR8 .e = lo s.de := rfl
@[simp] theorem State.setR8_h_bc (s : State) (v : Byte) : (s.setR8 .h v).bc = s.bc := rfl
@[simp] theorem State.setR8_h_de (s : State) (v : Byte) : (s.setR8 .h v).de = s.de := rfl
@[simp] theorem State.setR8_h_hl (s : State) (v : Byte) : (s.setR8 .h v).hl = join v (lo s.hl) := rfl
@[simp] theorem State.setR8_h_af (s : State) (v : Byte) : (s.setR8 .h v).af = s.af := rfl
@[simp] theorem State.getR8_h (s : State) : s.getR8 .h = hi s.hl := rfl
@[simp] theorem State.setR8_l_bc (s : State) (v : Byte) : (s.setR8 .l v).bc = s.bc := rfl
@[simp] theorem State.setR8_l_de (s : State) (v : Byte) : (s.setR8 .l v).de = s.de := rfl
@[simp] theorem State.setR8_l_hl (s : State) (v : Byte) : (s.setR8 .l v).hl = join (hi s.hl) v := rfl
@[simp] theorem State.setR8_l_af (s : State) (v : Byte) : (s.setR8 .l v).af = s.af := rfl
@[simp] theorem State.getR8_l (s : State) : s.getR8 .l = lo s.hl := rfl
@[simp] theorem State.setR8_a_bc (s : State) (v : Byte) : (s.setR8 .a v).bc = s.bc := rfl
@[simp] theorem State.setR8_a_de (s : State) (v : Byte) : (s.setR8 .a v).de = s.de := rfl
@[simp] theorem State.setR8_a_hl (s : State) (v : Byte) : (s.setR8 .a v).hl = s.hl := rfl
@[simp] theorem State.setR8_a_af (s : State) (v : Byte) : (s.setR8 .a v).af = join v (lo s.af) := rfl
@[simp] theorem State.getR8_a (s : State) : s.getR8 .a = hi s.af := rfl
@[simp] theorem State.getPair_bc (s : State) : s.getPair .bc = s.bc := rfl
@[simp] theorem State.getPair_de (s : State) : s.getPair .de = s.de := rfl
@[simp] theorem State.getPair_hl (s : State) : s.getPair .hl = s.hl := rfl
@[simp] theorem State.getPair_af (s : State) : s.getPair .af = s.af := rfl

/-! ### Memory, fetch, exception, reset -/

@[simp] theorem State.store_af (s : State) (a : Word) (v : Byte) : (s.store a v).af = s.af := rfl
@[simp] theorem State.advancePc_af (s : State) : s.advancePc.af = s.af := rfl
@[simp] theorem State.overlappedFetch_af (s : State) : s.overlappedFetch.af = s.af := rfl
@[simp] theorem State.raiseUnimplemented_af (s : State) : s.raiseUnimplemented.af = s.af := rfl
@[simp] theorem State.store_bc (s : State) (a : Word) (v : Byte) : (s.store a v).bc = s.bc := rfl
@[simp] theorem State.advancePc_bc (s : State) : s.advancePc.bc = s.bc := rfl
@[simp] theorem State.overlappedFetch_bc (s : State) : s.overlappedFetch.bc = s.bc := rfl
@[simp] theorem State.raiseUnimplemented_bc (s : State) : s.raiseUnimplemented.bc = s.bc := rfl
@[simp] theorem State.store_de (s : State) (a : Word) (v : Byte) : (s.store a v).de = s.de := rfl
@[simp] theorem State.advancePc_de (s : State) : s.advancePc.de = s.de := rfl
@[simp] theorem State.overlappedFetch_de (s : State) : s.overlappedFetch.de = s.de := rfl
@[simp] theorem State.raiseUnimplemented_de (s : State) : s.raiseUnimplemented.de = s.de := rfl
@[simp] theorem State.store_hl (s : State) (a : Word) (v : Byte) : (s.store a v).hl = s.hl := rfl
@[simp] theorem State.advancePc_hl (s : State) : s.advancePc.hl = s.hl := rfl
@[simp] theorem State.overlappedFetch_hl (s : State) : s.overlappedFetch.hl = s.hl := rfl
@[simp] theorem State.raiseUnimplemented_hl (s : State) : s.raiseUnimplemented.hl = s.hl := rfl
@[simp] theorem State.store_sp (s : State) (a : Word) (v : Byte) : (s.store a v).sp = s.sp := rfl
@[simp] theorem State.advancePc_sp (s : State) : s.advancePc.sp = s.sp := rfl
@[simp] theorem State.overlappedFetch_sp (s : State) : s.overlappedFetch.sp = s.sp := rfl
@[simp] theorem State.raiseUnimplemented_sp (s : State) : s.raiseUnimplemented.sp = s.sp := rfl
@[simp] theorem State.store_pc (s : State) (a : Word) (v : Byte) : (s.store a v).pc = s.pc := rfl
@[simp] theorem State.raiseUnimplemented_pc (s : State) : s.raiseUnimplemented.pc = s.pc := rfl
@[simp] theorem State.store_opcode (s : State) (a : Word) (v : Byte) : (s.store a v).opcode = s.opcode := rfl
@[simp] theorem State.advancePc_opcode (s : State) : s.advancePc.opcode = s.opcode := rfl
@[simp] theorem State.raiseUnimplemented_opcode (s : State) : s.raiseUnimplemented.opcode = s.opcode := rfl
@[simp] theorem State.store_seq (s : State) (a : Word) (v : Byte) : (s.store a v).seq = s.seq := rfl
@[simp] theorem State.advancePc_seq (s : State) : s.advancePc.seq = s.seq := rfl
@[simp] theorem State.store_zlo (s : State) (a : Word) (v : Byte) : (s.store a v).zlo = s.zlo := rfl
@[simp] theorem State.advancePc_zlo (s : State) : s.advancePc.zlo = s.zlo := rfl
@[simp] theorem State.overlappedFetch_zlo (s : State) : s.overlappedFetch.zlo = s.zlo := rfl
@[simp] theorem State.raiseUnimplemented_zlo (s : State) : s.raiseUnimplemented.zlo = s.zlo := rfl
@[simp] theorem State.store_zhi (s : State) (a : Word) (v : Byte) : (s.store a v).zhi = s.zhi := rfl
@[simp] theorem State.advancePc_zhi (s : State) : s.advancePc.zhi = s.zhi := rfl
@[simp] theorem State.overlappedFetch_zhi (s : State) : s.overlappedFetch.zhi = s.zhi := rfl
@[simp] theorem State.raiseUnimplemented_zhi (s : State) : s.raiseUnimplemented.zhi = s.zhi := rfl
@[simp] theorem State.advancePc_mem (s : State) : s.advancePc.mem = s.mem := rfl
@[simp] theorem State.overlappedFetch_mem (s : State) : s.overlappedFetch.mem = s.mem := rfl
@[simp] theorem State.raiseUnimplemented_mem (s : State) : s.raiseUnimplemented.mem = s.mem := rfl
@[simp] theorem State.store_params (s : State) (a : Word) (v : Byte) : (s.store a v).params = s.params := rfl
@[simp] theorem State.advancePc_params (s : State) : s.advancePc.params = s.params := rfl
@[simp] theorem State.overlappedFetch_params (s : State) : s.overlappedFetch.params = s.params := rfl
@[simp] theorem State.raiseUnimplemented_params (s : State) : s.raiseUnimplemented.params = s.params := rfl
@[simp] theorem State.store_draws (s : State) (a : Word) (v : Byte) : (s.store a v).draws = s.draws := rfl
@[simp] theorem State.advancePc_draws (s : State) : s.advancePc.draws = s.draws := rfl
@[simp] theorem State.overlappedFetch_draws (s : State) : s.overlappedFetch.draws = s.draws := rfl
@[simp] theorem State.raiseUnimplemented_draws (s : State) : s.raiseUnimplemented.draws = s.draws := rfl
@[simp] theorem State.store_driver (s : State) (a : Word) (v : Byte) : (s.store a v).driver = s.driver := rfl
@[simp] theorem State.advancePc_driver (s : State) : s.advancePc.driver = s.driver := rfl
@[simp] theorem State.overlappedFetch_driver (s : State) : s.overlappedFetch.driver = s.driver := rfl
@[simp] theorem State.raiseUnimplemented_driver (s : State) : s.raiseUnimplemented.driver = s.driver := rfl
@[simp] theorem State.store_mem (s : State) (a : Word) (v : Byte) : (s.store a v).mem = s.mem.write a v := rfl
@[simp] theorem State.advancePc_pc (s : State) : s.advancePc.pc = s.pc + 1 := rfl
@[simp] theorem State.overlappedFetch_pc (s : State) : s.overlappedFetch.pc = s.pc + 1 := rfl
@[simp] theorem State.overlappedFetch_opcode (s : State) : s.overlappedFetch.opcode = s.mem.read s.pc := rfl
@[simp] theorem State.overlappedFetch_seq (s : State) : s.overlappedFetch.seq = .boundary := rfl
@[simp] theorem State.raiseUnimplemented_seq (s : State) : s.raiseUnimplemented.seq = .fault s.opcode (s.pc - 1) := rfl
@[simp] theorem State.resetCore_af (s : State) : s.resetCore.af = 0#16 := rfl
@[simp] theorem State.resetCore_bc (s : State) : s.resetCore.bc = 0#16 := rfl
@[simp] theorem State.resetCore_de (s : State) : s.resetCore.de = 0#16 := rfl
@[simp] theorem State.resetCore_hl (s : State) : s.resetCore.hl = 0#16 := rfl
@[simp] theorem State.resetCore_sp (s : State) : s.resetCore.sp = 0#16 := rfl
@[simp] theorem State.resetCore_pc (s : State) : s.resetCore.pc = 0#16 := rfl
@[simp] theorem State.resetCore_opcode (s : State) : s.resetCore.opcode = 0#8 := rfl
@[simp] theorem State.resetCore_seq (s : State) : s.resetCore.seq = .boundary := rfl
@[simp] theorem State.resetCore_zlo (s : State) : s.resetCore.zlo = 0#8 := rfl
@[simp] theorem State.resetCore_zhi (s : State) : s.resetCore.zhi = 0#8 := rfl
@[simp] theorem State.resetCore_mem (s : State) : s.resetCore.mem = s.mem := rfl
@[simp] theorem State.resetCore_params (s : State) : s.resetCore.params = s.params := rfl
@[simp] theorem State.resetCore_draws (s : State) : s.resetCore.draws = s.draws := rfl
@[simp] theorem State.resetCore_driver (s : State) : s.resetCore.driver = s.driver := rfl
@[simp] theorem Mode.adjust_af (m : Mode) (s : State) : (m.adjust s).af = s.af := by cases m <;> rfl
@[simp] theorem Mode.adjust_bc (m : Mode) (s : State) : (m.adjust s).bc = s.bc := by cases m <;> rfl
@[simp] theorem Mode.adjust_de (m : Mode) (s : State) : (m.adjust s).de = s.de := by cases m <;> rfl
@[simp] theorem Mode.adjust_sp (m : Mode) (s : State) : (m.adjust s).sp = s.sp := by cases m <;> rfl
@[simp] theorem Mode.adjust_pc (m : Mode) (s : State) : (m.adjust s).pc = s.pc := by cases m <;> rfl
@[simp] theorem Mode.adjust_opcode (m : Mode) (s : State) : (m.adjust s).opcode = s.opcode := by cases m <;> rfl
@[simp] theorem Mode.adjust_seq (m : Mode) (s : State) : (m.adjust s).seq = s.seq := by cases m <;> rfl
@[simp] theorem Mode.adjust_zlo (m : Mode) (s : State) : (m.adjust s).zlo = s.zlo := by cases m <;> rfl
@[simp] theorem Mode.adjust_zhi (m : Mode) (s : State) : (m.adjust s).zhi = s.zhi := by cases m <;> rfl
@[simp] theorem Mode.adjust_mem (m : Mode) (s : State) : (m.adjust s).mem = s.mem := by cases m <;> rfl
@[simp] theorem Mode.adjust_params (m : Mode) (s : State) : (m.adjust s).params = s.params := by cases m <;> rfl
@[simp] theorem Mode.adjust_draws (m : Mode) (s : State) : (m.adjust s).draws = s.draws := by cases m <;> rfl
@[simp] theorem Mode.adjust_driver (m : Mode) (s : State) : (m.adjust s).driver = s.driver := by cases m <;> rfl

end Sys2Proof.Machine
end

