-- ==== Sys2Proof/Laws/Driver.lean ====
section
/-! SUPPORT. What the driver's turn can do. -/

namespace Sys2Proof.Machine

@[simp] theorem State.act_params (s : State) (x : DriverAct) : (s.act x).params = s.params := by
  cases x with
  | poke a v => simp only [State.act]; split <;> rfl
  | reset => rfl

/-- A driver action keeps memory canonical. -/
theorem State.act_wf {s : State} (x : DriverAct) (h : s.mem.wf = true) : (s.act x).mem.wf = true := by
  cases x with
  | poke a v =>
    simp only [State.act]
    split
    · exact h
    · exact Memory.wf_write a v h
  | reset => exact h

theorem State.foldl_act_wf (xs : List DriverAct) {s : State} (h : s.mem.wf = true) :
    (xs.foldl State.act s).mem.wf = true := by
  induction xs generalizing s with
  | nil => exact h
  | cons x xs ih => exact ih (State.act_wf x h)

/-- The driver's turn keeps memory canonical. -/
theorem State.driverTurn_wf {s : State} (h : s.mem.wf = true) : s.driverTurn.mem.wf = true := by
  unfold State.driverTurn
  split
  · exact h
  · exact State.foldl_act_wf _ h

/-- With nothing in its script the driver does nothing. -/
theorem State.driverTurn_nil {s : State} (h : s.driver = []) : s.driverTurn = s := by
  simp [State.driverTurn, h]

end Sys2Proof.Machine
end

