-- ==== Sys2Proof/Laws/Sequencer.lean ====
section
/-! SUPPORT. What one tick can do, said once. -/

namespace Sys2Proof.Machine

/-- Every meaning by its form: the schedule of the form is run, or the exception is taken. -/
theorem exec_eq (i : Instr) (s : State) :
    exec i s = if i.form = .unimplemented then takeUnimplemented s else runCycles (schedule s.params i.form) s := by
  cases i <;> rfl

/-- The table of lengths R104 and the table of cycles R105 agree. -/
theorem schedule_length (p : Params) (f : Form) (h : f ≠ .unimplemented) :
    (schedule p f).length = cyclesOf p f := by
  obtain ⟨n, _, _⟩ := p
  cases f <;> first | rfl | (cases n <;> rfl) | exact absurd rfl h

theorem cycleDue_boundary (w : MicroOp) (rest : List MicroOp) :
    cycleDue (w :: rest) .boundary = some (w, rest.length) := rfl

theorem runCycles_boundary {s : State} (w : MicroOp) (rest : List MicroOp) (h : s.seq = .boundary) :
    runCycles (w :: rest) s = .next (finishCycle rest.length (w.run s)) := by
  simp [runCycles, h, cycleDue]

/-- Cycle c(L-n) with `rest` after it, in InFlight(n). -/
theorem runCycles_inFlight {s : State} (pre rest : List MicroOp) (w : MicroOp) (hp : pre ≠ [])
    (h : s.seq = .inFlight (rest.length + 1)) :
    runCycles (pre ++ w :: rest) s = .next (finishCycle rest.length (w.run s)) := by
  have hlen : 0 < pre.length := List.length_pos_iff.mpr hp
  have hd : (pre ++ w :: rest).length - (rest.length + 1) = pre.length := by simp
  have hlt : rest.length + 1 < (pre ++ w :: rest).length := by simp; omega
  simp only [runCycles, h, cycleDue, hlt, if_true, hd, List.drop_left]

/-- The sticky state (R202). -/
theorem runCycles_fault {s : State} {op : Byte} {addr : Word} (sched : List MicroOp) (h : s.seq = .fault op addr) :
    runCycles sched s = .next s := by
  simp [runCycles, h]

/-- A cycle that is due: its place in the schedule and what is owed after it. -/
theorem cycleDue_some {sched : List MicroOp} {q : SeqState} {w : MicroOp} {owed : Nat}
    (h : cycleDue sched q = some (w, owed)) :
    w ∈ sched ∧ owed < sched.length ∧ (q = .boundary ∧ owed + 1 = sched.length ∨
      q = .inFlight (owed + 1) ∧ owed + 1 < sched.length) := by
  cases q with
  | fault op a => simp [cycleDue] at h
  | boundary =>
    cases sched with
    | nil => simp [cycleDue] at h
    | cons x rest =>
      simp only [cycleDue, Option.some.injEq, Prod.mk.injEq] at h
      obtain ⟨rfl, rfl⟩ := h
      simp
  | inFlight n =>
    simp only [cycleDue] at h
    split at h
    · rename_i hn
      split at h
      · simp at h
      · rename_i x rest hd
        simp only [Option.some.injEq, Prod.mk.injEq] at h
        obtain ⟨rfl, rfl⟩ := h
        have hl : rest.length + 1 = n := by
          have := congrArg List.length hd
          simp at this
          omega
        refine ⟨List.mem_of_mem_drop (hd ▸ List.mem_cons_self), by omega, .inr ⟨by rw [hl], by omega⟩⟩
    · simp at h

/-- If a tick over a schedule answers a next state, the core was in Fault and nothing changed, or one cycle of the
schedule was due and its work was done and finished. -/
theorem runCycles_next {sched : List MicroOp} {s t : State} (h : runCycles sched s = .next t) :
    (∃ op a, s.seq = .fault op a ∧ t = s) ∨
      ∃ w owed, cycleDue sched s.seq = some (w, owed) ∧ t = finishCycle owed (w.run s) := by
  unfold runCycles at h
  split at h
  · rename_i op a hq
    injection h with h
    exact .inl ⟨op, a, hq, h.symm⟩
  · split at h
    · rename_i w owed hd
      injection h with h
      exact .inr ⟨w, owed, hd, h.symm⟩
    · cases h

/-- If an unimplemented opcode answers a next state, it took the exception, or the core was in Fault already. -/
theorem takeUnimplemented_next {s t : State} (h : takeUnimplemented s = .next t) :
    (∃ op a, s.seq = .fault op a ∧ t = s) ∨ (s.seq = .boundary ∧ t = s.raiseUnimplemented) := by
  unfold takeUnimplemented at h
  split at h
  · injection h with h
    exact .inr ⟨‹_›, h.symm⟩
  · injection h with h
    exact .inl ⟨_, _, ‹_›, h.symm⟩
  · cases h

/-- Everything one tick can do when it answers a next state. -/
theorem exec_next {i : Instr} {s t : State} (h : exec i s = .next t) :
    (∃ op a, s.seq = .fault op a ∧ t = s) ∨
      (i.form = .unimplemented ∧ s.seq = .boundary ∧ t = s.raiseUnimplemented) ∨
      (i.form ≠ .unimplemented ∧ ∃ w owed, cycleDue (schedule s.params i.form) s.seq = some (w, owed) ∧
        t = finishCycle owed (w.run s)) := by
  rw [exec_eq] at h
  split at h
  · rename_i hf
    rcases takeUnimplemented_next h with h | ⟨hq, h⟩
    · exact .inl h
    · exact .inr (.inl ⟨hf, hq, h⟩)
  · rename_i hf
    rcases runCycles_next h with h | h
    · exact .inl h
    · exact .inr (.inr ⟨hf, h⟩)

/-! ### What the work of a cycle leaves alone -/

@[simp] theorem MicroOp.run_seq (w : MicroOp) (s : State) : (w.run s).seq = s.seq := by
  cases w with
  | alu op r => rfl
  | compare r => simp only [MicroOp.run, State.compare]; split <;> rfl
  | _ => simp [MicroOp.run, State.hlFromSp]

@[simp] theorem MicroOp.run_opcode (w : MicroOp) (s : State) : (w.run s).opcode = s.opcode := by
  cases w with
  | alu op r => rfl
  | compare r => simp only [MicroOp.run, State.compare]; split <;> rfl
  | _ => simp [MicroOp.run, State.hlFromSp]

@[simp] theorem MicroOp.run_params (w : MicroOp) (s : State) : (w.run s).params = s.params := by
  cases w with
  | alu op r => rfl
  | compare r => simp only [MicroOp.run, State.compare]; split <;> rfl
  | _ => simp [MicroOp.run, State.hlFromSp]

@[simp] theorem MicroOp.run_driver (w : MicroOp) (s : State) : (w.run s).driver = s.driver := by
  cases w with
  | alu op r => rfl
  | compare r => simp only [MicroOp.run, State.compare]; split <;> rfl
  | _ => simp [MicroOp.run, State.hlFromSp]

/-- The work of a cycle keeps memory canonical. -/
theorem MicroOp.run_wf {w : MicroOp} {s : State} (h : s.mem.wf = true) : (w.run s).mem.wf = true := by
  cases w with
  | alu op r => exact h
  | compare r => simp only [MicroOp.run, State.compare]; split <;> exact h
  | _ => first | simpa [MicroOp.run, State.hlFromSp] using h | simpa [MicroOp.run] using Memory.wf_write _ _ h

@[simp] theorem finishCycle_mem (n : Nat) (s : State) : (finishCycle n s).mem = s.mem := by cases n <;> rfl

@[simp] theorem finishCycle_params (n : Nat) (s : State) : (finishCycle n s).params = s.params := by cases n <;> rfl

@[simp] theorem finishCycle_driver (n : Nat) (s : State) : (finishCycle n s).driver = s.driver := by cases n <;> rfl

/-- A tick keeps memory canonical. -/
theorem exec_keeps_wf {i : Instr} {s t : State} (hw : s.mem.wf = true) (h : exec i s = .next t) :
    t.mem.wf = true := by
  rcases exec_next h with ⟨_, _, _, rfl⟩ | ⟨_, _, rfl⟩ | ⟨_, w, owed, _, rfl⟩
  · exact hw
  · exact hw
  · simpa using MicroOp.run_wf hw

end Sys2Proof.Machine
end

