-- ==== Sys2Proof/Tests/Slice0.lean ====
section
/-! SUPPORT. The model's own tests: well-formedness, decoding by hand-written words, one step of each form with results
taken from spec/95_test_vectors.md or worked out by hand from its rules, and for each statement with hypotheses a state
and operands that meet them. -/

namespace Sys2Proof.Tests

open Sys2Proof Sys2Proof.Machine

/-! ### Well-formedness -/

theorem test_wf_rejects_immediate_on_one_byte_form : (Code.mk .nop (.imm8 0)).wellFormed = false := by decide
theorem test_wf_rejects_word_on_one_byte_form : (Code.mk .unimplC3 (.imm16 0)).wellFormed = false := by decide
theorem test_wf_rejects_missing_byte : (Code.mk .ldBImm .none).wellFormed = false := by decide
theorem test_wf_rejects_word_for_byte : (Code.mk .ldhAImm (.imm16 0x44)).wellFormed = false := by decide
theorem test_wf_rejects_missing_word : (Code.mk .ldSPImm .none).wellFormed = false := by decide
theorem test_wf_rejects_byte_for_word : (Code.mk .ldAAbs (.imm8 0)).wellFormed = false := by decide
theorem test_wf_accepts : (Code.mk .ldAAbs (.imm16 0x01FF)).wellFormed = true := by decide

/-! ### Decoding: every constructor, by its fields x, y, z (R81) or its bits, from R84 and R85 -/

theorem test_decode_00 :
    [0b00#2 ++ 0b000#3 ++ 0b000#3, 0b00#2 ++ 0b000#3 ++ 0b001#3, 0b00#2 ++ 0b000#3 ++ 0b010#3, 0b00#2 ++ 0b000#3 ++ 0b011#3,
      0b00#2 ++ 0b000#3 ++ 0b100#3, 0b00#2 ++ 0b000#3 ++ 0b101#3, 0b00#2 ++ 0b000#3 ++ 0b110#3, 0b00#2 ++ 0b000#3 ++ 0b111#3].map decodeOpcode =
    [.nop, .ldPairBCImm, .ldIndBCA, .unimpl03, .unimpl04, .unimpl05, .ldBImm, .unimpl07] := by decide

theorem test_decode_08 :
    [0b00#2 ++ 0b001#3 ++ 0b000#3, 0b00#2 ++ 0b001#3 ++ 0b001#3, 0b00#2 ++ 0b001#3 ++ 0b010#3, 0b00#2 ++ 0b001#3 ++ 0b011#3,
      0b00#2 ++ 0b001#3 ++ 0b100#3, 0b00#2 ++ 0b001#3 ++ 0b101#3, 0b00#2 ++ 0b001#3 ++ 0b110#3, 0b00#2 ++ 0b001#3 ++ 0b111#3].map decodeOpcode =
    [.ldAbsSP, .unimpl09, .ldAIndBC, .unimpl0B, .unimpl0C, .unimpl0D, .ldCImm, .unimpl0F] := by decide

theorem test_decode_10 :
    [0b00#2 ++ 0b010#3 ++ 0b000#3, 0b00#2 ++ 0b010#3 ++ 0b001#3, 0b00#2 ++ 0b010#3 ++ 0b010#3, 0b00#2 ++ 0b010#3 ++ 0b011#3,
      0b00#2 ++ 0b010#3 ++ 0b100#3, 0b00#2 ++ 0b010#3 ++ 0b101#3, 0b00#2 ++ 0b010#3 ++ 0b110#3, 0b00#2 ++ 0b010#3 ++ 0b111#3].map decodeOpcode =
    [.unimpl10, .ldPairDEImm, .ldIndDEA, .unimpl13, .unimpl14, .unimpl15, .ldDImm, .unimpl17] := by decide

theorem test_decode_18 :
    [0b00#2 ++ 0b011#3 ++ 0b000#3, 0b00#2 ++ 0b011#3 ++ 0b001#3, 0b00#2 ++ 0b011#3 ++ 0b010#3, 0b00#2 ++ 0b011#3 ++ 0b011#3,
      0b00#2 ++ 0b011#3 ++ 0b100#3, 0b00#2 ++ 0b011#3 ++ 0b101#3, 0b00#2 ++ 0b011#3 ++ 0b110#3, 0b00#2 ++ 0b011#3 ++ 0b111#3].map decodeOpcode =
    [.unimpl18, .unimpl19, .ldAIndDE, .unimpl1B, .unimpl1C, .unimpl1D, .ldEImm, .unimpl1F] := by decide

theorem test_decode_20 :
    [0b00#2 ++ 0b100#3 ++ 0b000#3, 0b00#2 ++ 0b100#3 ++ 0b001#3, 0b00#2 ++ 0b100#3 ++ 0b010#3, 0b00#2 ++ 0b100#3 ++ 0b011#3,
      0b00#2 ++ 0b100#3 ++ 0b100#3, 0b00#2 ++ 0b100#3 ++ 0b101#3, 0b00#2 ++ 0b100#3 ++ 0b110#3, 0b00#2 ++ 0b100#3 ++ 0b111#3].map decodeOpcode =
    [.unimpl20, .ldPairHLImm, .ldIndHLIncA, .unimpl23, .unimpl24, .unimpl25, .ldHImm, .unimpl27] := by decide

theorem test_decode_28 :
    [0b00#2 ++ 0b101#3 ++ 0b000#3, 0b00#2 ++ 0b101#3 ++ 0b001#3, 0b00#2 ++ 0b101#3 ++ 0b010#3, 0b00#2 ++ 0b101#3 ++ 0b011#3,
      0b00#2 ++ 0b101#3 ++ 0b100#3, 0b00#2 ++ 0b101#3 ++ 0b101#3, 0b00#2 ++ 0b101#3 ++ 0b110#3, 0b00#2 ++ 0b101#3 ++ 0b111#3].map decodeOpcode =
    [.unimpl28, .unimpl29, .ldAIndHLInc, .unimpl2B, .unimpl2C, .unimpl2D, .ldLImm, .unimpl2F] := by decide

theorem test_decode_30 :
    [0b00#2 ++ 0b110#3 ++ 0b000#3, 0b00#2 ++ 0b110#3 ++ 0b001#3, 0b00#2 ++ 0b110#3 ++ 0b010#3, 0b00#2 ++ 0b110#3 ++ 0b011#3,
      0b00#2 ++ 0b110#3 ++ 0b100#3, 0b00#2 ++ 0b110#3 ++ 0b101#3, 0b00#2 ++ 0b110#3 ++ 0b110#3, 0b00#2 ++ 0b110#3 ++ 0b111#3].map decodeOpcode =
    [.unimpl30, .ldSPImm, .ldIndHLDecA, .unimpl33, .unimpl34, .unimpl35, .ldIndHLImm, .unimpl37] := by decide

theorem test_decode_38 :
    [0b00#2 ++ 0b111#3 ++ 0b000#3, 0b00#2 ++ 0b111#3 ++ 0b001#3, 0b00#2 ++ 0b111#3 ++ 0b010#3, 0b00#2 ++ 0b111#3 ++ 0b011#3,
      0b00#2 ++ 0b111#3 ++ 0b100#3, 0b00#2 ++ 0b111#3 ++ 0b101#3, 0b00#2 ++ 0b111#3 ++ 0b110#3, 0b00#2 ++ 0b111#3 ++ 0b111#3].map decodeOpcode =
    [.unimpl38, .unimpl39, .ldAIndHLDec, .unimpl3B, .unimpl3C, .unimpl3D, .ldAImm, .unimpl3F] := by decide

theorem test_decode_40 :
    [0b01#2 ++ 0b000#3 ++ 0b000#3, 0b01#2 ++ 0b000#3 ++ 0b001#3, 0b01#2 ++ 0b000#3 ++ 0b010#3, 0b01#2 ++ 0b000#3 ++ 0b011#3,
      0b01#2 ++ 0b000#3 ++ 0b100#3, 0b01#2 ++ 0b000#3 ++ 0b101#3, 0b01#2 ++ 0b000#3 ++ 0b110#3, 0b01#2 ++ 0b000#3 ++ 0b111#3].map decodeOpcode =
    [.ldBB, .ldBC, .ldBD, .ldBE, .ldBH, .ldBL, .ldBIndHL, .ldBA] := by decide

theorem test_decode_48 :
    [0b01#2 ++ 0b001#3 ++ 0b000#3, 0b01#2 ++ 0b001#3 ++ 0b001#3, 0b01#2 ++ 0b001#3 ++ 0b010#3, 0b01#2 ++ 0b001#3 ++ 0b011#3,
      0b01#2 ++ 0b001#3 ++ 0b100#3, 0b01#2 ++ 0b001#3 ++ 0b101#3, 0b01#2 ++ 0b001#3 ++ 0b110#3, 0b01#2 ++ 0b001#3 ++ 0b111#3].map decodeOpcode =
    [.ldCB, .ldCC, .ldCD, .ldCE, .ldCH, .ldCL, .ldCIndHL, .ldCA] := by decide

theorem test_decode_50 :
    [0b01#2 ++ 0b010#3 ++ 0b000#3, 0b01#2 ++ 0b010#3 ++ 0b001#3, 0b01#2 ++ 0b010#3 ++ 0b010#3, 0b01#2 ++ 0b010#3 ++ 0b011#3,
      0b01#2 ++ 0b010#3 ++ 0b100#3, 0b01#2 ++ 0b010#3 ++ 0b101#3, 0b01#2 ++ 0b010#3 ++ 0b110#3, 0b01#2 ++ 0b010#3 ++ 0b111#3].map decodeOpcode =
    [.ldDB, .ldDC, .ldDD, .ldDE, .ldDH, .ldDL, .ldDIndHL, .ldDA] := by decide

theorem test_decode_58 :
    [0b01#2 ++ 0b011#3 ++ 0b000#3, 0b01#2 ++ 0b011#3 ++ 0b001#3, 0b01#2 ++ 0b011#3 ++ 0b010#3, 0b01#2 ++ 0b011#3 ++ 0b011#3,
      0b01#2 ++ 0b011#3 ++ 0b100#3, 0b01#2 ++ 0b011#3 ++ 0b101#3, 0b01#2 ++ 0b011#3 ++ 0b110#3, 0b01#2 ++ 0b011#3 ++ 0b111#3].map decodeOpcode =
    [.ldEB, .ldEC, .ldED, .ldEE, .ldEH, .ldEL, .ldEIndHL, .ldEA] := by decide

theorem test_decode_60 :
    [0b01#2 ++ 0b100#3 ++ 0b000#3, 0b01#2 ++ 0b100#3 ++ 0b001#3, 0b01#2 ++ 0b100#3 ++ 0b010#3, 0b01#2 ++ 0b100#3 ++ 0b011#3,
      0b01#2 ++ 0b100#3 ++ 0b100#3, 0b01#2 ++ 0b100#3 ++ 0b101#3, 0b01#2 ++ 0b100#3 ++ 0b110#3, 0b01#2 ++ 0b100#3 ++ 0b111#3].map decodeOpcode =
    [.ldHB, .ldHC, .ldHD, .ldHE, .ldHH, .ldHL, .ldHIndHL, .ldHA] := by decide

theorem test_decode_68 :
    [0b01#2 ++ 0b101#3 ++ 0b000#3, 0b01#2 ++ 0b101#3 ++ 0b001#3, 0b01#2 ++ 0b101#3 ++ 0b010#3, 0b01#2 ++ 0b101#3 ++ 0b011#3,
      0b01#2 ++ 0b101#3 ++ 0b100#3, 0b01#2 ++ 0b101#3 ++ 0b101#3, 0b01#2 ++ 0b101#3 ++ 0b110#3, 0b01#2 ++ 0b101#3 ++ 0b111#3].map decodeOpcode =
    [.ldLB, .ldLC, .ldLD, .ldLE, .ldLH, .ldLL, .ldLIndHL, .ldLA] := by decide

theorem test_decode_70 :
    [0b01#2 ++ 0b110#3 ++ 0b000#3, 0b01#2 ++ 0b110#3 ++ 0b001#3, 0b01#2 ++ 0b110#3 ++ 0b010#3, 0b01#2 ++ 0b110#3 ++ 0b011#3,
      0b01#2 ++ 0b110#3 ++ 0b100#3, 0b01#2 ++ 0b110#3 ++ 0b101#3, 0b01#2 ++ 0b110#3 ++ 0b110#3, 0b01#2 ++ 0b110#3 ++ 0b111#3].map decodeOpcode =
    [.ldIndHLB, .ldIndHLC, .ldIndHLD, .ldIndHLE, .ldIndHLH, .ldIndHLL, .unimpl76, .ldIndHLA] := by decide

theorem test_decode_78 :
    [0b01#2 ++ 0b111#3 ++ 0b000#3, 0b01#2 ++ 0b111#3 ++ 0b001#3, 0b01#2 ++ 0b111#3 ++ 0b010#3, 0b01#2 ++ 0b111#3 ++ 0b011#3,
      0b01#2 ++ 0b111#3 ++ 0b100#3, 0b01#2 ++ 0b111#3 ++ 0b101#3, 0b01#2 ++ 0b111#3 ++ 0b110#3, 0b01#2 ++ 0b111#3 ++ 0b111#3].map decodeOpcode =
    [.ldAB, .ldAC, .ldAD, .ldAE, .ldAH, .ldAL, .ldAIndHL, .ldAA] := by decide

theorem test_decode_80 :
    [0b10#2 ++ 0b000#3 ++ 0b000#3, 0b10#2 ++ 0b000#3 ++ 0b001#3, 0b10#2 ++ 0b000#3 ++ 0b010#3, 0b10#2 ++ 0b000#3 ++ 0b011#3,
      0b10#2 ++ 0b000#3 ++ 0b100#3, 0b10#2 ++ 0b000#3 ++ 0b101#3, 0b10#2 ++ 0b000#3 ++ 0b110#3, 0b10#2 ++ 0b000#3 ++ 0b111#3].map decodeOpcode =
    [.addB, .addC, .addD, .addE, .addH, .addL, .unimpl86, .addA] := by decide

theorem test_decode_88 :
    [0b10#2 ++ 0b001#3 ++ 0b000#3, 0b10#2 ++ 0b001#3 ++ 0b001#3, 0b10#2 ++ 0b001#3 ++ 0b010#3, 0b10#2 ++ 0b001#3 ++ 0b011#3,
      0b10#2 ++ 0b001#3 ++ 0b100#3, 0b10#2 ++ 0b001#3 ++ 0b101#3, 0b10#2 ++ 0b001#3 ++ 0b110#3, 0b10#2 ++ 0b001#3 ++ 0b111#3].map decodeOpcode =
    [.adcB, .adcC, .adcD, .adcE, .adcH, .adcL, .unimpl8E, .adcA] := by decide

theorem test_decode_90 :
    [0b10#2 ++ 0b010#3 ++ 0b000#3, 0b10#2 ++ 0b010#3 ++ 0b001#3, 0b10#2 ++ 0b010#3 ++ 0b010#3, 0b10#2 ++ 0b010#3 ++ 0b011#3,
      0b10#2 ++ 0b010#3 ++ 0b100#3, 0b10#2 ++ 0b010#3 ++ 0b101#3, 0b10#2 ++ 0b010#3 ++ 0b110#3, 0b10#2 ++ 0b010#3 ++ 0b111#3].map decodeOpcode =
    [.subB, .subC, .subD, .subE, .subH, .subL, .unimpl96, .subA] := by decide

theorem test_decode_98 :
    [0b10#2 ++ 0b011#3 ++ 0b000#3, 0b10#2 ++ 0b011#3 ++ 0b001#3, 0b10#2 ++ 0b011#3 ++ 0b010#3, 0b10#2 ++ 0b011#3 ++ 0b011#3,
      0b10#2 ++ 0b011#3 ++ 0b100#3, 0b10#2 ++ 0b011#3 ++ 0b101#3, 0b10#2 ++ 0b011#3 ++ 0b110#3, 0b10#2 ++ 0b011#3 ++ 0b111#3].map decodeOpcode =
    [.sbcB, .sbcC, .sbcD, .sbcE, .sbcH, .sbcL, .unimpl9E, .sbcA] := by decide

theorem test_decode_A0 :
    [0b10#2 ++ 0b100#3 ++ 0b000#3, 0b10#2 ++ 0b100#3 ++ 0b001#3, 0b10#2 ++ 0b100#3 ++ 0b010#3, 0b10#2 ++ 0b100#3 ++ 0b011#3,
      0b10#2 ++ 0b100#3 ++ 0b100#3, 0b10#2 ++ 0b100#3 ++ 0b101#3, 0b10#2 ++ 0b100#3 ++ 0b110#3, 0b10#2 ++ 0b100#3 ++ 0b111#3].map decodeOpcode =
    [.andB, .andC, .andD, .andE, .andH, .andL, .unimplA6, .andA] := by decide

theorem test_decode_A8 :
    [0b10#2 ++ 0b101#3 ++ 0b000#3, 0b10#2 ++ 0b101#3 ++ 0b001#3, 0b10#2 ++ 0b101#3 ++ 0b010#3, 0b10#2 ++ 0b101#3 ++ 0b011#3,
      0b10#2 ++ 0b101#3 ++ 0b100#3, 0b10#2 ++ 0b101#3 ++ 0b101#3, 0b10#2 ++ 0b101#3 ++ 0b110#3, 0b10#2 ++ 0b101#3 ++ 0b111#3].map decodeOpcode =
    [.xorB, .xorC, .xorD, .xorE, .xorH, .xorL, .unimplAE, .xorA] := by decide

theorem test_decode_B0 :
    [0b10#2 ++ 0b110#3 ++ 0b000#3, 0b10#2 ++ 0b110#3 ++ 0b001#3, 0b10#2 ++ 0b110#3 ++ 0b010#3, 0b10#2 ++ 0b110#3 ++ 0b011#3,
      0b10#2 ++ 0b110#3 ++ 0b100#3, 0b10#2 ++ 0b110#3 ++ 0b101#3, 0b10#2 ++ 0b110#3 ++ 0b110#3, 0b10#2 ++ 0b110#3 ++ 0b111#3].map decodeOpcode =
    [.orB, .orC, .orD, .orE, .orH, .orL, .unimplB6, .orA] := by decide

theorem test_decode_B8 :
    [0b10#2 ++ 0b111#3 ++ 0b000#3, 0b10#2 ++ 0b111#3 ++ 0b001#3, 0b10#2 ++ 0b111#3 ++ 0b010#3, 0b10#2 ++ 0b111#3 ++ 0b011#3,
      0b10#2 ++ 0b111#3 ++ 0b100#3, 0b10#2 ++ 0b111#3 ++ 0b101#3, 0b10#2 ++ 0b111#3 ++ 0b110#3, 0b10#2 ++ 0b111#3 ++ 0b111#3].map decodeOpcode =
    [.cpB, .cpC, .cpD, .cpE, .cpH, .cpL, .unimplBE, .cpA] := by decide

theorem test_decode_C0 :
    [0b11#2 ++ 0b000#3 ++ 0b000#3, 0b11#2 ++ 0b000#3 ++ 0b001#3, 0b11#2 ++ 0b000#3 ++ 0b010#3, 0b11#2 ++ 0b000#3 ++ 0b011#3,
      0b11#2 ++ 0b000#3 ++ 0b100#3, 0b11#2 ++ 0b000#3 ++ 0b101#3, 0b11#2 ++ 0b000#3 ++ 0b110#3, 0b11#2 ++ 0b000#3 ++ 0b111#3].map decodeOpcode =
    [.unimplC0, .popBC, .unimplC2, .unimplC3, .unimplC4, .pushBC, .unimplC6, .unimplC7] := by decide

theorem test_decode_C8 :
    [0b11#2 ++ 0b001#3 ++ 0b000#3, 0b11#2 ++ 0b001#3 ++ 0b001#3, 0b11#2 ++ 0b001#3 ++ 0b010#3, 0b11#2 ++ 0b001#3 ++ 0b011#3,
      0b11#2 ++ 0b001#3 ++ 0b100#3, 0b11#2 ++ 0b001#3 ++ 0b101#3, 0b11#2 ++ 0b001#3 ++ 0b110#3, 0b11#2 ++ 0b001#3 ++ 0b111#3].map decodeOpcode =
    [.unimplC8, .unimplC9, .unimplCA, .unimplCB, .unimplCC, .unimplCD, .unimplCE, .unimplCF] := by decide

theorem test_decode_D0 :
    [0b11#2 ++ 0b010#3 ++ 0b000#3, 0b11#2 ++ 0b010#3 ++ 0b001#3, 0b11#2 ++ 0b010#3 ++ 0b010#3, 0b11#2 ++ 0b010#3 ++ 0b011#3,
      0b11#2 ++ 0b010#3 ++ 0b100#3, 0b11#2 ++ 0b010#3 ++ 0b101#3, 0b11#2 ++ 0b010#3 ++ 0b110#3, 0b11#2 ++ 0b010#3 ++ 0b111#3].map decodeOpcode =
    [.unimplD0, .popDE, .unimplD2, .unimplD3, .unimplD4, .pushDE, .unimplD6, .unimplD7] := by decide

theorem test_decode_D8 :
    [0b11#2 ++ 0b011#3 ++ 0b000#3, 0b11#2 ++ 0b011#3 ++ 0b001#3, 0b11#2 ++ 0b011#3 ++ 0b010#3, 0b11#2 ++ 0b011#3 ++ 0b011#3,
      0b11#2 ++ 0b011#3 ++ 0b100#3, 0b11#2 ++ 0b011#3 ++ 0b101#3, 0b11#2 ++ 0b011#3 ++ 0b110#3, 0b11#2 ++ 0b011#3 ++ 0b111#3].map decodeOpcode =
    [.unimplD8, .unimplD9, .unimplDA, .unimplDB, .unimplDC, .unimplDD, .unimplDE, .unimplDF] := by decide

theorem test_decode_E0 :
    [0b11#2 ++ 0b100#3 ++ 0b000#3, 0b11#2 ++ 0b100#3 ++ 0b001#3, 0b11#2 ++ 0b100#3 ++ 0b010#3, 0b11#2 ++ 0b100#3 ++ 0b011#3,
      0b11#2 ++ 0b100#3 ++ 0b100#3, 0b11#2 ++ 0b100#3 ++ 0b101#3, 0b11#2 ++ 0b100#3 ++ 0b110#3, 0b11#2 ++ 0b100#3 ++ 0b111#3].map decodeOpcode =
    [.ldhImmA, .popHL, .ldIndCA, .unimplE3, .unimplE4, .pushHL, .unimplE6, .unimplE7] := by decide

theorem test_decode_E8 :
    [0b11#2 ++ 0b101#3 ++ 0b000#3, 0b11#2 ++ 0b101#3 ++ 0b001#3, 0b11#2 ++ 0b101#3 ++ 0b010#3, 0b11#2 ++ 0b101#3 ++ 0b011#3,
      0b11#2 ++ 0b101#3 ++ 0b100#3, 0b11#2 ++ 0b101#3 ++ 0b101#3, 0b11#2 ++ 0b101#3 ++ 0b110#3, 0b11#2 ++ 0b101#3 ++ 0b111#3].map decodeOpcode =
    [.unimplE8, .unimplE9, .ldAbsA, .unimplEB, .unimplEC, .unimplED, .unimplEE, .unimplEF] := by decide

theorem test_decode_F0 :
    [0b11#2 ++ 0b110#3 ++ 0b000#3, 0b11#2 ++ 0b110#3 ++ 0b001#3, 0b11#2 ++ 0b110#3 ++ 0b010#3, 0b11#2 ++ 0b110#3 ++ 0b011#3,
      0b11#2 ++ 0b110#3 ++ 0b100#3, 0b11#2 ++ 0b110#3 ++ 0b101#3, 0b11#2 ++ 0b110#3 ++ 0b110#3, 0b11#2 ++ 0b110#3 ++ 0b111#3].map decodeOpcode =
    [.ldhAImm, .popAF, .ldAIndC, .unimplF3, .unimplF4, .pushAF, .unimplF6, .unimplF7] := by decide

theorem test_decode_F8 :
    [0b11#2 ++ 0b111#3 ++ 0b000#3, 0b11#2 ++ 0b111#3 ++ 0b001#3, 0b11#2 ++ 0b111#3 ++ 0b010#3, 0b11#2 ++ 0b111#3 ++ 0b011#3,
      0b11#2 ++ 0b111#3 ++ 0b100#3, 0b11#2 ++ 0b111#3 ++ 0b101#3, 0b11#2 ++ 0b111#3 ++ 0b110#3, 0b11#2 ++ 0b111#3 ++ 0b111#3].map decodeOpcode =
    [.ldHLSPImm, .ldSPHL, .ldAAbs, .unimplFB, .unimplFC, .unimplFD, .unimplFE, .unimplFF] := by decide


theorem test_decode_takes_low_byte_first : decode [0xFA, 0xFF, 0x01, 0x77] = .ok (⟨.ldAAbs, .imm16 0x01FF⟩, [0x77]) := by
  decide
theorem test_decode_rejects_no_bytes : (decode []).toOption = none := by decide
theorem test_decode_rejects_missing_byte : (decode [0x06]).toOption = none := by decide
theorem test_decode_rejects_missing_word_byte : (decode [0x31, 0x80]).toOption = none := by decide
theorem test_encode_word : encode ⟨.ldPairBCImm, .imm16 0xB0C0⟩ = [0x01, 0xC0, 0xB0] := by decide
theorem test_decodeTableWord : decodeTableWord 8 0x36 = some .ldIndHLImm := by decide
theorem test_withFetchWord_runs :
    (step (State.reset.withFetchWord 8 0x76)) = .next { State.reset with
      opcode := 0x76, seq := .fault 0x76 0xFFFF } := by rfl

/-! ### One step -/

/-- A state with the given registers, nothing in flight, the opcode fetched and PC at 0x0101. -/
def st (af bc de hl sp : Word) (op : Byte) (mem : Memory) : State :=
  { State.reset with af := af, bc := bc, de := de, hl := hl, sp := sp, pc := 0x0101, opcode := op, mem := mem }

/-- The same with `n` cycles owed and the latches given. -/
def mid (s : State) (n : Nat) (zlo zhi : Byte) : State := { s with seq := .inFlight n, zlo := zlo, zhi := zhi }

/-- A value of the state after one step. -/
def after {α : Type} (f : State → α) (s : State) : Option α :=
  match step s with
  | .next t => some (f t)
  | .fault _ => none
  | .refused _ => none

/-- S6, V-41-01. -/
theorem test_nop : after (fun t => (t.pc, t.opcode)) (st 0x0000 0x0000 0x0000 0x0000 0x0000 0x00 [(0x0101, 0x2E#8)]) = some (0x0102#16, 0x2E#8) := by decide

/-- S6, tick 1. -/
theorem test_first_tick_after_reset : after (fun t => (t.pc, t.opcode, t.seq)) State.reset = some (1#16, 0#8, .boundary) := by decide

/-- V-41-02. -/
theorem test_ld_a_b :
    after (fun t => (t.af, t.bc, t.pc)) (st 0x0000 0x1234 0x0000 0x0000 0x0000 0x78 []) = some (0x1200#16, 0x1234#16, 0x0102#16) := by decide

/-- V-41-04. -/
theorem test_ld_a_a :
    after (fun t => (t.af, t.pc)) (st 0x9CF0 0x0000 0x0000 0x0000 0x0000 0x7F []) = some (0x9CF0#16, 0x0102#16) := by decide

/-- V-41-05. -/
theorem test_ld_h_l :
    after (fun t => t.hl) (st 0x0000 0x0000 0x0000 0x12AB 0x0000 0x65 []) = some 0xABAB#16 := by decide

/-- V-41-06. -/
theorem test_ld_b_a :
    after (fun t => (t.bc, t.af)) (st 0x9900 0x0000 0x0000 0x0000 0x0000 0x47 []) = some (0x9900#16, 0x9900#16) := by decide

/-- V-41-07, tick 1. -/
theorem test_ld_l_imm_c0 :
    after (fun t => (t.hl, t.zlo, t.pc, t.seq)) (st 0x0000 0x0000 0x0000 0xAA55 0x0000 0x2E [(0x0101, 0x7E#8)]) = some (0xAA55#16, 0x7E#8, 0x0102#16, .inFlight 1) := by decide

/-- V-41-07, tick 2. -/
theorem test_ld_l_imm_c1 :
    after (fun t => (t.hl, t.seq)) (mid (st 0x0000 0x0000 0x0000 0xAA55 0x0000 0x2E []) 1 0x7E 0x00) = some (0xAA7E#16, .boundary) := by decide

/-- V-42-02: the address is taken before H is written. -/
theorem test_ld_h_ind_hl :
    after (fun t => (t.hl, t.seq)) (st 0x0000 0x0000 0x0000 0x1234 0x0000 0x66 [(0x1234, 0x56#8)]) = some (0x5634#16, .inFlight 1) := by decide

/-- V-42-01, tick 2. -/
theorem test_ld_a_ind_hl_wait :
    after (fun t => (t.af, t.pc, t.seq)) (mid (st 0x5A00 0x0000 0x0000 0xC000 0x0000 0x7E []) 1 0x00 0x00) = some (0x5A00#16, 0x0102#16, .boundary) := by decide

/-- V-42-04: HL wraps, F is unchanged. -/
theorem test_ld_a_hl_inc :
    after (fun t => (t.af, t.hl)) (st 0x00B0 0x0000 0x0000 0xFFFF 0x0000 0x2A [(0xFFFF, 0x77#8)]) = some (0x77B0#16, 0x0000#16) := by decide

/-- V-42-05. -/
theorem test_ld_a_hl_dec :
    after (fun t => (t.af, t.hl)) (st 0x0000 0x0000 0x0000 0x0000 0x0000 0x3A [(0x0000, 0x21#8)]) = some (0x2100#16, 0xFFFF#16) := by decide

/-- V-42-06. -/
theorem test_ld_ind_hl_b :
    after (fun t => (t.mem, t.hl)) (st 0x0000 0x9900 0x0000 0xC010 0x0000 0x70 []) = some ([(0xC010, 0x99#8)], 0xC010#16) := by decide

/-- V-42-07. -/
theorem test_ld_ind_hl_h :
    after (fun t => t.mem) (st 0x0000 0x0000 0x0000 0xC010 0x0000 0x74 []) = some [(0xC010, 0xC0#8)] := by decide

/-- V-42-09. -/
theorem test_ld_hl_inc_a :
    after (fun t => (t.mem, t.hl)) (st 0x1100 0x0000 0x0000 0xFFFF 0x0000 0x22 []) = some ([(0xFFFF, 0x11#8)], 0x0000#16) := by decide

/-- V-42-10. -/
theorem test_ld_hl_dec_a :
    after (fun t => (t.mem, t.hl)) (st 0x2200 0x0000 0x0000 0x0000 0x0000 0x32 []) = some ([(0x0000, 0x22#8)], 0xFFFF#16) := by decide

/-- V-42-11, tick 2: a wait. -/
theorem test_ld_ind_hl_imm_c1 :
    after (fun t => (t.mem, t.pc, t.seq)) (mid (st 0x0000 0x0000 0x0000 0xC000 0x0000 0x36 []) 2 0x42 0x00) = some ([], 0x0101#16, .inFlight 1) := by decide

/-- V-42-12: the fetch reads the byte just stored. -/
theorem test_ld_ind_hl_imm_store_is_fetched :
    after (fun t => (t.mem, t.opcode)) (mid (st 0x0000 0x0000 0x0000 0x0101 0x0000 0x36 []) 1 0x47 0x00) = some ([(0x0101, 0x47#8)], 0x47#8) := by decide

/-- V-43-01. -/
theorem test_ld_a_bc :
    after (fun t => t.af) (st 0x0000 0x1234 0x0000 0x0000 0x0000 0x0A [(0x1234, 0xAB#8)]) = some 0xAB00#16 := by decide

/-- V-43-02. -/
theorem test_ld_a_de :
    after (fun t => t.af) (st 0x0000 0x0000 0x8000 0x0000 0x0000 0x1A [(0x8000, 0x3C#8)]) = some 0x3C00#16 := by decide

/-- V-43-03. -/
theorem test_ld_bc_a :
    after (fun t => t.mem) (st 0x7F00 0xC100 0x0000 0x0000 0x0000 0x02 []) = some [(0xC100, 0x7F#8)] := by decide

/-- V-43-04. -/
theorem test_ld_de_a :
    after (fun t => t.mem) (st 0x8000 0x0000 0xC101 0x0000 0x0000 0x12 []) = some [(0xC101, 0x80#8)] := by decide

/-- V-43-05: B plays no part. -/
theorem test_ld_a_c :
    after (fun t => t.af) (st 0x0000 0x1244 0x0000 0x0000 0x0000 0xF2 [(0xFF44, 0x90#8)]) = some 0x9000#16 := by decide

/-- V-43-07. -/
theorem test_ld_c_a :
    after (fun t => t.mem) (st 0x1300 0xABFF 0x0000 0x0000 0x0000 0xE2 []) = some [(0xFFFF, 0x13#8)] := by decide

/-- V-43-08, tick 3. -/
theorem test_ldh_a_imm :
    after (fun t => t.af) (mid (st 0x0000 0x0000 0x0000 0x0000 0x0000 0xF0 [(0xFF44, 0x91#8)]) 1 0x44 0x00) = some 0x9100#16 := by decide

/-- V-43-09, tick 3: a8 is not sign-extended. -/
theorem test_ldh_imm_a :
    after (fun t => t.mem) (mid (st 0x3E00 0x0000 0x0000 0x0000 0x0000 0xE0 []) 1 0x80 0x00) = some [(0xFF80, 0x3E#8)] := by decide

/-- V-43-10 and S10, the access: 01FF, not FF01. -/
theorem test_ld_a_abs :
    after (fun t => t.af) (mid (st 0x0000 0x0000 0x0000 0x0000 0x0000 0xFA [(0x01FF, 0x5A#8), (0xFF01, 0xEE#8)]) 2 0xFF 0x01) = some 0x5A00#16 := by decide

/-- V-43-11. -/
theorem test_ld_abs_a :
    after (fun t => t.mem) (mid (st 0x5500 0x0000 0x0000 0x0000 0x0000 0xEA []) 2 0x00 0xC0) = some [(0xC000, 0x55#8)] := by decide

/-- V-16-01, tick 2. -/
theorem test_ld_bc_imm_c1 :
    after (fun t => (t.bc, t.zhi, t.seq)) (mid (st 0x0000 0x0000 0x0000 0x0000 0x0000 0x01 [(0x0101, 0xB0#8)]) 2 0xC0 0x00) = some (0x0000#16, 0xB0#8, .inFlight 1) := by decide

/-- V-16-01, tick 3. -/
theorem test_ld_bc_imm_c2 :
    after (fun t => t.bc) (mid (st 0x0000 0x0000 0x0000 0x0000 0x0000 0x01 []) 1 0xC0 0xB0) = some 0xB0C0#16 := by decide

/-- V-16-02. -/
theorem test_ld_de_imm :
    after (fun t => t.de) (mid (st 0x0000 0x0000 0x0000 0x0000 0x0000 0x11 []) 1 0x34 0x12) = some 0x1234#16 := by decide

/-- V-16-03. -/
theorem test_ld_hl_imm :
    after (fun t => t.hl) (mid (st 0x0000 0x0000 0x0000 0x0000 0x0000 0x21 []) 1 0xFF 0x00) = some 0x00FF#16 := by decide

/-- V-16-04. -/
theorem test_ld_sp_imm :
    after (fun t => t.sp) (mid (st 0x0000 0x0000 0x0000 0x0000 0x0000 0x31 []) 1 0x80 0x00) = some 0x0080#16 := by decide

/-- V-16-05. -/
theorem test_ld_sp_hl_two :
    after (fun t => (t.sp, t.pc, t.seq)) (st 0x0000 0x0000 0x0000 0xDFF0 0x0000 0xF9 []) = some (0xDFF0#16, 0x0101#16, .inFlight 1) := by decide

/-- V-16-05 under P_LD_SP_HL_CYCLES = 1. -/
theorem test_ld_sp_hl_one :
    after (fun t => (t.sp, t.pc, t.seq)) { st 0x0000 0x0000 0x0000 0xDFF0 0x0000 0xF9 [] with params := ⟨.one, .subLike, .closed⟩ } =
      some (0xDFF0#16, 0x0102#16, .boundary) := by decide

/-- V-16-07, the low byte. -/
theorem test_ld_abs_sp_lo :
    after (fun t => t.mem) (mid (st 0x0000 0x0000 0x0000 0x0000 0x1234 0x08 []) 3 0xFF 0xFF) = some [(0xFFFF, 0x34#8)] := by decide

/-- V-16-07, the high byte: the address wraps. -/
theorem test_ld_abs_sp_hi :
    after (fun t => t.mem) (mid (st 0x0000 0x0000 0x0000 0x0000 0x1234 0x08 []) 2 0xFF 0xFF) = some [(0x0000, 0x12#8)] := by decide

/-- V-16-08, tick 2. -/
theorem test_push_bc_hi :
    after (fun t => (t.mem, t.sp)) (mid (st 0x0000 0xB0C0 0x0000 0x0000 0x007F 0xC5 []) 3 0x00 0x00) = some ([(0x007F, 0xB0#8)], 0x007E#16) := by decide

/-- V-16-08, tick 3. -/
theorem test_push_bc_lo :
    after (fun t => (t.mem, t.sp)) (mid (st 0x0000 0xB0C0 0x0000 0x0000 0x007E 0xC5 []) 2 0x00 0x00) = some ([(0x007E, 0xC0#8)], 0x007E#16) := by decide

/-- V-16-10, tick 1. -/
theorem test_push_de_dec :
    after (fun t => (t.sp, t.mem, t.seq)) (st 0x0000 0x0000 0x1122 0x0000 0x0000 0xD5 []) = some (0xFFFF#16, [], .inFlight 3) := by decide

/-- V-16-09, tick 2. -/
theorem test_push_hl_hi :
    after (fun t => (t.mem, t.sp)) (mid (st 0x0000 0x0000 0x0000 0xA1B2 0x0000 0xE5 []) 3 0x00 0x00) = some ([(0x0000, 0xA1#8)], 0xFFFF#16) := by decide

/-- V-16-12: F is stored whole. -/
theorem test_push_af_lo :
    after (fun t => t.mem) (mid (st 0x12BF 0x0000 0x0000 0x0000 0xCFFE 0xF5 []) 2 0x00 0x00) = some [(0xCFFE, 0xBF#8)] := by decide

/-- V-16-13, tick 1. -/
theorem test_pop_bc_lo :
    after (fun t => (t.bc, t.sp)) (st 0x0000 0x0000 0x0000 0x0000 0x007E 0xC1 [(0x007E, 0xC0#8), (0x007F, 0xB0#8)]) = some (0x00C0#16, 0x007F#16) := by decide

/-- V-16-13, tick 2. -/
theorem test_pop_bc_hi :
    after (fun t => (t.bc, t.sp)) (mid (st 0x0000 0x00C0 0x0000 0x0000 0x007F 0xC1 [(0x007F, 0xB0#8)]) 2 0x00 0x00) = some (0xB0C0#16, 0x0080#16) := by decide

/-- V-16-14, tick 1. -/
theorem test_pop_hl_wraps :
    after (fun t => (t.hl, t.sp)) (st 0x0000 0x0000 0x0000 0x0000 0xFFFF 0xE1 [(0x0000, 0xAB#8), (0xFFFF, 0xCD#8)]) = some (0x00CD#16, 0x0000#16) := by decide

/-- R166, worked out by hand. -/
theorem test_pop_de :
    after (fun t => (t.de, t.sp)) (st 0x0000 0x0000 0x0000 0x0000 0x0010 0xD1 [(0x0010, 0x34#8)]) = some (0x0034#16, 0x0011#16) := by decide

/-- V-16-15, tick 1: F is loaded whole. -/
theorem test_pop_af_lo :
    after (fun t => t.af) (st 0x00F0 0x0000 0x0000 0x0000 0xCFFE 0xF1 [(0xCFFE, 0xFF#8)]) = some 0x00FF#16 := by decide

/-- V-16-16, tick 2. -/
theorem test_ld_hl_sp_imm :
    after (fun t => (t.hl, t.af)) (mid (st 0x00F0 0x0000 0x0000 0x0000 0xFFF8 0xF8 []) 2 0x08 0x00) = some (0x0000#16, 0x0030#16) := by decide

/-- V-16-20. -/
theorem test_ld_hl_sp_imm_negative :
    after (fun t => (t.hl, t.af)) (mid (st 0x00F0 0x0000 0x0000 0x0000 0x1000 0xF8 []) 2 0x80 0x00) = some (0x0F80#16, 0x0000#16) := by decide

/-- V-ALU-01 and S4. -/
theorem test_add_b :
    after (fun t => t.af) (st 0xFF00 0x0100 0x0000 0x0000 0x0000 0x80 []) = some 0x00B0#16 := by decide

/-- V-ALU-05. -/
theorem test_add_a :
    after (fun t => t.af) (st 0x8800 0x0000 0x0000 0x0000 0x0000 0x87 []) = some 0x1030#16 := by decide

/-- V-ALU-10. -/
theorem test_adc_b :
    after (fun t => t.af) (st 0xE110 0x0F00 0x0000 0x0000 0x0000 0x88 []) = some 0xF120#16 := by decide

/-- V-ALU-11. -/
theorem test_adc_a :
    after (fun t => t.af) (st 0x8010 0x0000 0x0000 0x0000 0x0000 0x8F []) = some 0x0110#16 := by decide

/-- V-ALU-12 and S5. -/
theorem test_sub_b :
    after (fun t => t.af) (st 0x0000 0x0100 0x0000 0x0000 0x0000 0x90 []) = some 0xFF70#16 := by decide

/-- V-ALU-15. -/
theorem test_sub_b_borrow_only :
    after (fun t => t.af) (st 0x3E00 0x4000 0x0000 0x0000 0x0000 0x90 []) = some 0xFE50#16 := by decide

/-- V-ALU-18. -/
theorem test_sbc_b :
    after (fun t => t.af) (st 0x0010 0xFF00 0x0000 0x0000 0x0000 0x98 []) = some 0x00F0#16 := by decide

/-- V-ALU-19. -/
theorem test_sbc_b_half :
    after (fun t => t.af) (st 0x1010 0x0F00 0x0000 0x0000 0x0000 0x98 []) = some 0x00E0#16 := by decide

/-- V-ALU-24. -/
theorem test_and_b :
    after (fun t => t.af) (st 0x5A10 0x0F00 0x0000 0x0000 0x0000 0xA0 []) = some 0x0A20#16 := by decide

/-- V-ALU-25. -/
theorem test_and_b_zero :
    after (fun t => t.af) (st 0xF000 0x0F00 0x0000 0x0000 0x0000 0xA0 []) = some 0x00A0#16 := by decide

/-- V-ALU-27. -/
theorem test_xor_b :
    after (fun t => t.af) (st 0xFFF0 0x0F00 0x0000 0x0000 0x0000 0xA8 []) = some 0xF000#16 := by decide

/-- V-ALU-28. -/
theorem test_xor_a :
    after (fun t => t.af) (st 0xC370 0x0000 0x0000 0x0000 0x0000 0xAF []) = some 0x0080#16 := by decide

/-- V-ALU-30. -/
theorem test_or_b :
    after (fun t => t.af) (st 0x5A10 0x0300 0x0000 0x0000 0x0000 0xB0 []) = some 0x5B00#16 := by decide

/-- V-ALU-29. -/
theorem test_or_b_zero :
    after (fun t => t.af) (st 0x0070 0x0000 0x0000 0x0000 0x0000 0xB0 []) = some 0x0080#16 := by decide

/-- V-ALU-33. -/
theorem test_cp_b :
    after (fun t => t.af) (st 0x3C00 0x2F00 0x0000 0x0000 0x0000 0xB8 []) = some 0x3C60#16 := by decide

/-- V-ALU-35. -/
theorem test_cp_a :
    after (fun t => t.af) (st 0xFF1F 0x0000 0x0000 0x0000 0x0000 0xBF []) = some 0xFFC0#16 := by decide

/-- Section 2.5, operand selection. -/
theorem test_add_operand_c :
    after (fun t => t.af) (st 0x1000 0x0102 0x0304 0x0506 0x0000 0x81 []) = some 0x1200#16 := by decide

/-- Section 2.5, operand selection. -/
theorem test_add_operand_d :
    after (fun t => t.af) (st 0x1000 0x0102 0x0304 0x0506 0x0000 0x82 []) = some 0x1300#16 := by decide

/-- Section 2.5, operand selection. -/
theorem test_add_operand_e :
    after (fun t => t.af) (st 0x1000 0x0102 0x0304 0x0506 0x0000 0x83 []) = some 0x1400#16 := by decide

/-- Section 2.5, operand selection. -/
theorem test_add_operand_h :
    after (fun t => t.af) (st 0x1000 0x0102 0x0304 0x0506 0x0000 0x84 []) = some 0x1500#16 := by decide

/-- Section 2.5, operand selection. -/
theorem test_add_operand_l :
    after (fun t => t.af) (st 0x1000 0x0102 0x0304 0x0506 0x0000 0x85 []) = some 0x1600#16 := by decide

/-- V-ALU-32 under ANY_CH: Zero and Subtract are fixed, one draw is taken. -/
theorem test_cp_any_ch :
    after (fun t => (t.af.getLsbD 7, t.af.getLsbD 6, t.draws))
      { st 0x3C00 0x4000 0 0 0 0xB8 [] with params := ⟨.two, .anyCH, .closed⟩ } = some (false, true, 1) := by
  change some ((join 0x3C (flagsByte false true (Config.freeCpFlags 0).1 (Config.freeCpFlags 0).2)).getLsbD 7,
    (join 0x3C (flagsByte false true (Config.freeCpFlags 0).1 (Config.freeCpFlags 0).2)).getLsbD 6, 1) = _
  generalize (Config.freeCpFlags 0).1 = x
  generalize (Config.freeCpFlags 0).2 = y
  cases x <;> cases y <;> decide

/-- V-60-01: nothing but seq changes. -/
theorem test_unimplemented_faults :
    step (st 0x1234 1 2 3 4 0x76 []) = .next { st 0x1234 1 2 3 4 0x76 [] with seq := .fault 0x76 0x0100 } := by rfl
/-- V-60-03: the recorded address wraps. -/
theorem test_fault_address_wraps :
    after (·.seq) { st 0 0 0 0 0 0xCB [] with pc := 0 } = some (.fault 0xCB 0xFFFF) := by decide
/-- V-60-02: Fault is sticky. -/
theorem test_fault_is_sticky :
    step { State.reset with seq := .fault 0xD3 8 } = .next { State.reset with seq := .fault 0xD3 8 } := by rfl
/-- V-60-10: reset in the middle of a PUSH, then tick 1. -/
theorem test_reset_mid_push :
    after (fun t => (t.sp, t.pc, t.mem, t.seq))
      { mid (st 0 0xB0C0 0 0 0x7E 0xC5 [(0x7F, 0xB0#8)]) 2 0 0 with driver := [[.reset]] } =
      some (0#16, 1#16, [(0x7F, 0xB0#8)], .boundary) := by decide
/-- R62, P_ENV = CLOSED: a poke has no effect. -/
theorem test_closed_ignores_poke :
    after (·.mem) { st 0 0 0 0 0 0 [] with driver := [[.poke 0x8000 0x55]] } = some [] := by decide
/-- R62, P_ENV = OPEN: the tick's fetch sees the driver's write. -/
theorem test_open_poke_is_seen :
    after (fun t => (t.mem, t.opcode))
      { st 0 0 0 0 0 0 [] with params := ⟨.two, .subLike, .opened⟩, driver := [[.poke 0x0101 0x55]] } =
      some ([(0x0101, 0x55#8)], 0x55#8) := by decide
/-- S1: writing one half leaves the other. -/
theorem test_write_half : ((st 0 0 0 0x12AB 0 0 []).setR8 .h 0x56).hl = 0x56AB := by decide
/-- S2: setFlag(Carry, 1) on F = 0F. -/
theorem test_set_flag : setFlag 0x0F .carry true = 0x10 := by decide
/-- Writing 00, what an unlisted byte reads as, removes the entry. -/
theorem test_memory_canonical : Memory.write [(5, 0x11#8)] 5 0 = [] := by decide
/-- V-43-08, tick 3: the accesses in order. -/
theorem test_bus_order :
    busOf .ldhAImm (mid (st 0 0 0 0 0 0xF0 [(0xFF44, 0x91#8)]) 1 0x44 0) = [.read 0xFF44 0x91, .read 0x0101 0] := by
  decide

/-! ### Hypotheses of the statements are met -/

theorem witness_DecodeEncodeRoundTrip : (Code.mk .nop .none).wellFormed = true ∧
    (Code.mk .ldhAImm (.imm8 0xFF)).wellFormed = true ∧ (Code.mk .ldAbsSP (.imm16 0xFFFF)).wellFormed = true := by decide
theorem witness_EncodeDecodeRoundTrip : decode [0xF8, 0x80, 0x00] = .ok (⟨.ldHLSPImm, .imm8 0x80⟩, [0x00]) := by decide
/-- The two bytes after the opcode wrap past 0xFFFF. -/
theorem witness_StepRunsDecodedInstruction :
    let s : State := { st 0 0 0 0 0 0x31 [(0x0000, 0xDF#8), (0xFFFF, 0xF0#8)] with pc := 0xFFFF }
    s.driver = [] ∧ decode [s.opcode, s.mem.read s.pc, s.mem.read (s.pc + 1)] = .ok (⟨.ldSPImm, .imm16 0xDFF0⟩, []) := by
  decide
theorem witness_DriverResetRestarts :
    ({ State.reset with seq := .fault 0xD3 8, pc := 9, opcode := 0xD3, driver := [[.reset], []] } : State).driver =
      [.reset] :: [[]] := by decide
theorem witness_ClosedEnvKeepsMemory :
    ({ State.reset with driver := [[.poke 0 1]] } : State).params.env = .closed := by decide
theorem witness_OpenEnvReachesEveryMemory :
    let s : State := { st 0 0 0 0 0 0 [(0x0000, 0x76#8)] with params := ⟨.two, .subLike, .opened⟩ }
    s.params.env = .opened ∧ s.mem.wf = true ∧ Memory.wf [(0x0001, 0x3E#8), (0xFFFF, 0x01#8)] = true := by decide
/-- The invariant holds in flight at the longest instruction's last owed cycle but none, and in Fault. -/
theorem witness_InvariantKeptAndStepTotal :
    Inv (mid (st 0 0 0 0 0 0x08 [(0xFFFF, 0x01#8)]) 4 0 0) ∧
      Inv { st 0 0 0 0 0 0xCB [] with seq := .fault 0xCB 0xFFFF, pc := 0 } :=
  ⟨⟨by decide, (by decide : 1 ≤ 4 ∧ 4 < 5)⟩, ⟨by decide, ⟨rfl, by decide, rfl⟩⟩⟩
theorem witness_MemoryReadAfterWrite : Memory.wf [(0x0000, 0x01#8), (0xFFFF, 0xFF#8)] = true := by decide
theorem witness_MemoryCanonicalForm :
    Memory.wf [(0xFFFF, 0xFF#8)] = true ∧ Memory.wf (Memory.write [] 0xFFFF 0xFF) = true ∧
      ∀ a : Word, Memory.read [(0xFFFF, 0xFF#8)] a = (Memory.write [] 0xFFFF 0xFF).read a :=
  ⟨by decide, by decide, fun _ => rfl⟩
theorem witness_PairAndHalvesAreOneStorage : Pair.hl ≠ Pair.af := by decide
theorem witness_NopExecutes : (st 0 0 0 0 0 0x00 []).seq = .boundary := by decide
theorem witness_LoadRegisterFromRegister :
    Instr.ldLA.opcode = 0b01#2 ++ codeOfReg8 .l ++ codeOfReg8 .a ∧
      Instr.ldBB.opcode = 0b01#2 ++ codeOfReg8 .b ++ codeOfReg8 .b ∧ (st 0x1200 0 0 0 0 0x6F []).seq = .boundary := by
  decide
theorem witness_LoadRegisterImmediate :
    Instr.ldAImm.opcode = 0b00#2 ++ codeOfReg8 .a ++ 0b110#3 ∧ (st 0 0 0 0 0 0x3E [(0x0101, 0x3C#8)]).seq = .boundary := by
  decide
theorem witness_LoadRegisterFromHL :
    Instr.ldHIndHL.opcode = 0b01#2 ++ codeOfReg8 .h ++ 0b110#3 ∧ (st 0 0 0 0x1234 0 0x66 []).seq = .boundary := by decide
theorem witness_LoadAccumulatorHLAdjust : (st 0 0 0 0xFFFF 0 0x2A []).seq = .boundary := by decide
theorem witness_StoreRegisterAtHL :
    Instr.ldIndHLL.opcode = 0b01#2 ++ 0b110#3 ++ codeOfReg8 .l ∧ (st 0 0 0 0x0101 0 0x75 []).seq = .boundary := by decide
theorem witness_StoreAccumulatorHLIncrement : (st 0x1100 0 0 0xFFFF 0 0x22 []).seq = .boundary := by decide
theorem witness_StoreAccumulatorHLDecrement : (st 0x2200 0 0 0x0000 0 0x32 []).seq = .boundary := by decide
theorem witness_StoreImmediateAtHL : (st 0 0 0 0x0102 0 0x36 [(0x0101, 0x47#8)]).seq = .boundary := by decide
theorem witness_LoadAccumulatorFromPair : (st 0 0x1234 0x8000 0 0 0x0A []).seq = .boundary := by decide
theorem witness_StoreAccumulatorAtPair : (st 0x7F00 0xC100 0xC101 0 0 0x02 []).seq = .boundary := by decide
theorem witness_HighPageByRegisterC : (st 0x1300 0xABFF 0 0 0 0xE2 []).seq = .boundary := by decide
theorem witness_HighPageByImmediate : (st 0x3E00 0 0 0 0 0xE0 [(0x0101, 0x80#8)]).seq = .boundary := by decide
theorem witness_LoadAccumulatorAbsolute : (st 0 0 0 0 0 0xFA [(0x0101, 0xFF#8), (0x0102, 0x01#8)]).seq = .boundary := by
  decide
theorem witness_StoreAccumulatorAbsolute : (st 0x5500 0 0 0 0 0xEA [(0x0102, 0xC0#8)]).seq = .boundary := by decide
theorem witness_LoadPairImmediate :
    Pair.hl ≠ .af ∧ Instr.ldPairHLImm.opcode = 0b00#2 ++ codeOfPair .hl ++ 0b0001#4 ∧
      (st 0 0 0 0 0 0x21 [(0x0101, 0xFF#8)]).seq = .boundary := by decide
theorem witness_LoadSPImmediate : (st 0 0 0 0 0 0x31 [(0x0101, 0x80#8)]).seq = .boundary := by decide
theorem witness_StoreSPAbsolute :
    (st 0 0 0 0 0x1234 0x08 [(0x0101, 0xFF#8), (0x0102, 0xFF#8)]).seq = .boundary := by decide
theorem witness_LoadSPFromHL :
    (st 0 0 0 0xDFF0 0 0xF9 []).seq = .boundary ∧ (st 0 0 0 0xDFF0 0 0xF9 []).params.ldSpHlCycles = .two ∧
      ({ st 0 0 0 0xDFF0 0 0xF9 [] with params := ⟨.one, .subLike, .closed⟩ } : State).params.ldSpHlCycles = .one := by
  decide
theorem witness_PushExecutes :
    Instr.pushAF.opcode = 0b11#2 ++ codeOfPair .af ++ 0b0101#4 ∧ Instr.pushHL.opcode = 0b11#2 ++ codeOfPair .hl ++ 0b0101#4 ∧
      (st 0x12BF 0 0 0xA1B2 0x0001 0xF5 []).seq = .boundary := by decide
theorem witness_PopExecutes :
    Instr.popAF.opcode = 0b11#2 ++ codeOfPair .af ++ 0b0001#4 ∧ Instr.popHL.opcode = 0b11#2 ++ codeOfPair .hl ++ 0b0001#4 ∧
      (st 0 0 0 0 0xFFFF 0xF1 [(0x0000, 0xAB#8), (0xFFFF, 0xCD#8)]).seq = .boundary := by decide
theorem witness_LoadHLFromSPPlusDisplacement : (st 0 0 0 0 0x1000 0xF8 [(0x0101, 0x80#8)]).seq = .boundary := by decide
theorem witness_AddExecutes :
    Instr.addA.opcode = 0b10#2 ++ 0b000#3 ++ codeOfReg8 .a ∧ (st 0x8800 0 0 0 0 0x87 []).seq = .boundary := by decide
theorem witness_AdcExecutes :
    Instr.adcA.opcode = 0b10#2 ++ 0b001#3 ++ codeOfReg8 .a ∧ (st 0x8010 0 0 0 0 0x8F []).seq = .boundary := by decide
theorem witness_SubExecutes :
    Instr.subB.opcode = 0b10#2 ++ 0b010#3 ++ codeOfReg8 .b ∧ (st 0 0x0100 0 0 0 0x90 []).seq = .boundary := by decide
theorem witness_SbcExecutes :
    Instr.sbcB.opcode = 0b10#2 ++ 0b011#3 ++ codeOfReg8 .b ∧ (st 0x0010 0xFF00 0 0 0 0x98 []).seq = .boundary := by decide
theorem witness_LogicExecutes :
    Instr.andL.opcode = 0b10#2 ++ 0b100#3 ++ codeOfReg8 .l ∧ Instr.xorL.opcode = 0b10#2 ++ 0b101#3 ++ codeOfReg8 .l ∧
      Instr.orL.opcode = 0b10#2 ++ 0b110#3 ++ codeOfReg8 .l ∧ (st 0x5A00 0 0 0x0003 0 0xA5 []).seq = .boundary := by decide
theorem witness_CompareExecutes :
    Instr.cpE.opcode = 0b10#2 ++ 0b111#3 ++ codeOfReg8 .e ∧ (st 0x3C00 0 0x0040 0 0 0xBB []).seq = .boundary ∧
      (st 0x3C00 0 0x0040 0 0 0xBB []).params.cpFlags = .subLike ∧
      ({ st 0x3C00 0 0x0040 0 0 0xBB [] with params := ⟨.two, .anyCH, .closed⟩ } : State).params.cpFlags = .anyCH := by
  decide
theorem witness_UnimplementedTakesFault :
    Instr.unimpl76.form = .unimplemented ∧ (st 0 0 0 0 0 0x76 []).seq = .boundary := by decide
theorem witness_PushThenPopIsIdentity :
    Instr.pushAF.opcode = 0b11#2 ++ codeOfPair .af ++ 0b0101#4 ∧ Instr.popAF.opcode = 0b11#2 ++ codeOfPair .af ++ 0b0001#4 ∧
      (st 0x12BF 0 0 0 0x0001 0xF5 [(0xFFFF, 0x01#8)]).seq = .boundary ∧
      (st 0x12BF 0 0 0 0x0001 0xF5 [(0xFFFF, 0x01#8)]).mem.wf = true := by decide
/-- The longest instruction, with k at both ends of its range, and the shortest. -/
theorem witness_InstructionTakesLenTicks :
    let s := st 0 0 0 0 0x1234 0x08 [(0x0101, 0xFF#8), (0x0102, 0xFF#8)]
    s.seq = .boundary ∧ (decodeOpcode s.opcode).form ≠ .unimplemented ∧
      (0 < 1 ∧ 1 < cyclesOf s.params (decodeOpcode s.opcode).form) ∧ 4 < cyclesOf s.params (decodeOpcode s.opcode).form ∧
      (decodeOpcode (st 0 0 0 0 0 0x00 []).opcode).form ≠ .unimplemented := by decide
theorem witness_TicksRefineNetEffect :
    (st 0 0 0 0 0x0001 0xE5 []).seq = .boundary ∧ (decodeOpcode (st 0 0 0 0 0x0001 0xE5 []).opcode).form ≠ .unimplemented := by
  decide
/-- A tick that ends its instruction, and one that does not. -/
theorem witness_OpcodeAndPcChangeOnlyByFetch :
    (∃ t, (∀ op a, (st 0 0 0 0 0 0x00 []).seq ≠ .fault op a) ∧ Instr.nop.form ≠ .unimplemented ∧
      exec .nop (st 0 0 0 0 0 0x00 []) = .next t ∧ t.seq = .boundary) ∧
    ∃ t, (∀ op a, (st 0 0 0 0 0 0x06 []).seq ≠ .fault op a) ∧ Instr.ldBImm.form ≠ .unimplemented ∧
      exec .ldBImm (st 0 0 0 0 0 0x06 []) = .next t ∧ t.seq ≠ .boundary :=
  ⟨⟨_, (by intro _ _ h; cases h), by decide, rfl, rfl⟩, ⟨_, (by intro _ _ h; cases h), by decide, rfl, by decide⟩⟩
/-- Fault entered, and Fault kept. -/
theorem witness_FaultOnlyByDecode :
    (∃ t, exec .unimplCB (st 0 0 0 0 0 0xCB []) = .next t ∧ t.seq = .fault 0xCB 0x0100) ∧
    ∃ t, exec .nop { st 0 0 0 0 0 0 [] with seq := .fault 0xCB 0xFFFF } = .next t ∧ t.seq = .fault 0xCB 0xFFFF :=
  ⟨⟨_, rfl, by decide⟩, ⟨_, rfl, rfl⟩⟩
theorem witness_BusAccessesInOrder :
    ∃ t, (∀ op a, (mid (st 0x3E00 0 0 0 0 0xE0 []) 1 0x80 0).seq ≠ .fault op a) ∧ Instr.ldhImmA.form ≠ .unimplemented ∧
      exec .ldhImmA (mid (st 0x3E00 0 0 0 0 0xE0 []) 1 0x80 0) = .next t :=
  ⟨_, (by intro _ _ h; cases h), by decide, rfl⟩
/-- A tick that writes 0xFFFF and then reads 0x0101, so that each clause has an address. -/
theorem witness_MemoryChangesOnlyByBusWrites :
    (mid (st 0x3E00 0 0 0 0 0xE0 []) 1 0xFF 0).mem.wf = true ∧
      (∃ t, exec .ldhImmA (mid (st 0x3E00 0 0 0 0 0xE0 []) 1 0xFF 0) = .next t) ∧
      BusAccess.write 0xFFFF 0x3E ∈ busOf .ldhImmA (mid (st 0x3E00 0 0 0 0 0xE0 []) 1 0xFF 0) ∧
      BusAccess.read 0x0101 0x00 ∈ busOf .ldhImmA (mid (st 0x3E00 0 0 0 0 0xE0 []) 1 0xFF 0) ∧
      ∀ v : Byte, BusAccess.write 0x0000 v ∉ busOf .ldhImmA (mid (st 0x3E00 0 0 0 0 0xE0 []) 1 0xFF 0) :=
  ⟨by decide, ⟨_, rfl⟩, by decide, by decide, by decide⟩
theorem witness_OnlyStoreFormsChangeMemory :
    storesMemory Instr.popAF.form = false ∧ ∃ t, exec .popAF (st 0 0 0 0 0xFFFF 0xF1 []) = .next t :=
  ⟨by decide, ⟨_, rfl⟩⟩
theorem witness_RegistersChangeOnlyByTheirForms :
    (∃ t, exec .ldAIndHLInc (st 0 0 0 0xFFFF 0 0x2A []) = .next t) ∧ writesReg8 Instr.ldAIndHLInc.form .b = false ∧
      writesFlags Instr.ldAIndHLInc.form = false ∧ writesSp Instr.ldAIndHLInc.form = false ∧
      Instr.ldAIndHLInc.format = .op ∧ Instr.ldBImm.format ≠ .opI16 :=
  ⟨⟨_, rfl⟩, by decide, by decide, by decide, by decide, by decide⟩
theorem witness_FlagWritersClearLowNibble :
    writesFlags Instr.addB.form = true ∧ Instr.addB.form ≠ .popAF ∧ (st 0x00FF 0 0 0 0 0x80 []).seq = .boundary ∧
      ∃ t, execTicks .addB (cyclesOf (st 0x00FF 0 0 0 0 0x80 []).params Instr.addB.form) (st 0x00FF 0 0 0 0 0x80 []) =
        .next t :=
  ⟨by decide, by decide, by decide, ⟨_, rfl⟩⟩
theorem witness_LatchesAtBoundaryAreDead :
    (st 0 0 0 0 0 0xFA []).seq = .boundary ∧ Instr.ldAAbs.form ≠ .unimplemented := by decide
theorem witness_LowNibbleOfFlagsIsUnread :
    Instr.adcB.form ≠ .pushAF ∧ ∃ t, exec .adcB (st 0x801F 0x8000 0 0 0 0x88 []) = .next t :=
  ⟨by decide, ⟨_, rfl⟩⟩

end Sys2Proof.Tests
end

section
/-! ### The invariant: every step is answered, and it is kept (R32, R100, R102, R201, R203) -/

namespace Sys2Proof.Machine

/-- In Boundary or in range some cycle of the schedule is due (R102). -/
theorem exists_cycleDue_of_inRange {sched : List MicroOp} {q : SeqState} (hne : sched ≠ [])
    (hq : q = .boundary ∨ ∃ n, q = .inFlight n ∧ 1 ≤ n ∧ n < sched.length) :
    ∃ w owed, cycleDue sched q = some (w, owed) := by
  rcases hq with rfl | ⟨n, rfl, h1, hn⟩
  · obtain ⟨w, rest, rfl⟩ := List.exists_cons_of_ne_nil hne
    exact ⟨w, rest.length, rfl⟩
  · have hd : sched.drop (sched.length - n) ≠ [] := by
      rw [ne_eq, List.drop_eq_nil_iff]
      omega
    obtain ⟨w, rest, hd⟩ := List.exists_cons_of_ne_nil hd
    exact ⟨w, rest.length, by simp [cycleDue, hn, hd]⟩

/-- A tick over a schedule does the work of the cycle that is due and finishes it (R102). -/
theorem runCycles_of_cycleDue {sched : List MicroOp} {s : State} {w : MicroOp} {owed : Nat}
    (h : cycleDue sched s.seq = some (w, owed)) : runCycles sched s = .next (finishCycle owed (w.run s)) := by
  unfold runCycles
  split
  · rename_i hq
    simp [hq, cycleDue] at h
  · simp [h]

/-- Every form has at least one cycle (R104). -/
theorem cyclesOf_pos (p : Params) (f : Form) : 0 < cyclesOf p f := by
  obtain ⟨n, _, _⟩ := p
  cases f
  case ldSPHL => cases n <;> exact Nat.succ_pos _
  all_goals exact Nat.succ_pos _

theorem schedule_ne_nil (p : Params) {f : Form} (h : f ≠ .unimplemented) : schedule p f ≠ [] := by
  rw [← List.length_pos_iff, schedule_length p f h]
  exact cyclesOf_pos p f

/-- A tick is answered in every state whose `seq` is in its range. -/
theorem tick_answers_of_seqOk {s : State} (h : SeqOk s) : ∃ t, tick s = .next t := by
  rw [tick, exec_eq]
  split
  · rename_i hf
    cases hq : s.seq with
    | boundary => exact ⟨s.raiseUnimplemented, by simp [takeUnimplemented, hq]⟩
    | fault op a => exact ⟨s, by simp [takeUnimplemented, hq]⟩
    | inFlight n =>
      simp only [SeqOk, hq, hf, cyclesOf] at h
      omega
  · rename_i hf
    have hne := schedule_ne_nil s.params hf
    cases hq : s.seq with
    | boundary =>
      obtain ⟨w, owed, hd⟩ := exists_cycleDue_of_inRange hne (.inl hq)
      exact ⟨_, runCycles_of_cycleDue hd⟩
    | fault op a => exact ⟨s, runCycles_fault _ hq⟩
    | inFlight n =>
      simp only [SeqOk, hq, ← schedule_length s.params _ hf] at h
      obtain ⟨w, owed, hd⟩ := exists_cycleDue_of_inRange hne (.inr ⟨n, hq, h⟩)
      exact ⟨_, runCycles_of_cycleDue hd⟩

/-- Taking the exception records the opcode and where it was fetched from (R201). -/
theorem SeqOk.raiseUnimplemented {s : State} (h : (decodeOpcode s.opcode).form = .unimplemented) :
    SeqOk s.raiseUnimplemented := ⟨rfl, rfl, h⟩

/-- The end of a cycle leaves `seq` in its range, if less than the whole instruction is owed (R102). -/
theorem SeqOk.finishCycle {s : State} {owed : Nat}
    (h : owed < cyclesOf s.params (decodeOpcode s.opcode).form) : SeqOk (finishCycle owed s) := by
  cases owed with
  | zero => trivial
  | succ n => exact ⟨Nat.succ_pos n, h⟩

/-- A tick leaves `seq` in its range (R102, R201, R202). -/
theorem tick_keeps_seqOk {s t : State} (hs : SeqOk s) (h : tick s = .next t) : SeqOk t := by
  rcases exec_next h with ⟨_, _, _, rfl⟩ | ⟨hf, _, rfl⟩ | ⟨hf, w, owed, hd, rfl⟩
  · exact hs
  · exact SeqOk.raiseUnimplemented hf
  · obtain ⟨_, howed, _⟩ := cycleDue_some hd
    apply SeqOk.finishCycle
    rwa [MicroOp.run_params, MicroOp.run_opcode, ← schedule_length _ _ hf]

/-- An action of the driver leaves `seq` in its range. -/
theorem State.act_keeps_seqOk {s : State} (x : DriverAct) (h : SeqOk s) : SeqOk (s.act x) := by
  cases x with
  | poke a v =>
    rw [State.act]
    split <;> exact h
  | reset => trivial

theorem State.foldl_act_keeps_seqOk (xs : List DriverAct) {s : State} (h : SeqOk s) :
    SeqOk (xs.foldl State.act s) := by
  induction xs generalizing s with
  | nil => exact h
  | cons x xs ih => exact ih (State.act_keeps_seqOk x h)

/-- The driver's turn keeps the invariant. -/
theorem State.driverTurn_keeps_inv {s : State} (h : Inv s) : Inv s.driverTurn := by
  refine ⟨State.driverTurn_wf h.mem, ?_⟩
  rw [State.driverTurn]
  split
  · exact h.seq
  · exact State.foldl_act_keeps_seqOk _ h.seq

/-- A tick keeps the invariant. -/
theorem tick_keeps_inv {s t : State} (hs : Inv s) (h : tick s = .next t) : Inv t :=
  ⟨exec_keeps_wf hs.mem h, tick_keeps_seqOk hs.seq h⟩

/-- Settles O11: the driver's turn keeps the invariant; under it a tick is answered, and keeps it too. -/
theorem invariantKeptAndStepTotal : Obligations.InvariantKeptAndStepTotal := by
  intro s hs
  have hd := State.driverTurn_keeps_inv hs
  obtain ⟨t, ht⟩ := tick_answers_of_seqOk hd.seq
  exact ⟨t, ht, tick_keeps_inv hd ht⟩

/-- Settles O10: memory lists nothing, and `seq` is Boundary. -/
theorem invariantAtReset : Obligations.InvariantAtReset := ⟨rfl, trivial⟩

end Sys2Proof.Machine
end

section
/-! ### Register File, Flag Codec, Snapshot (R20 to R26, R38, R40) -/

namespace Sys2Proof.Machine

/-! A pair and its halves: what a read gives after a write (R21). -/

@[simp] theorem State.getPair_setPair_same (s : State) (p : Pair) (v : Word) : (s.setPair p v).getPair p = v := by
  cases p <;> rfl

theorem State.getPair_setPair_of_ne {p q : Pair} (s : State) (v : Word) (h : q ≠ p) :
    (s.setPair p v).getPair q = s.getPair q := by
  cases p <;> cases q <;> simp at h ⊢

@[simp] theorem State.getPair_setHi_same (s : State) (p : Pair) (v : Byte) :
    (s.setHi p v).getPair p = join v (lo (s.getPair p)) := State.getPair_setPair_same s p _

@[simp] theorem State.getPair_setLo_same (s : State) (p : Pair) (v : Byte) :
    (s.setLo p v).getPair p = join (hi (s.getPair p)) v := State.getPair_setPair_same s p _

theorem State.getPair_setHi_of_ne {p q : Pair} (s : State) (v : Byte) (h : q ≠ p) :
    (s.setHi p v).getPair q = s.getPair q := State.getPair_setPair_of_ne s _ h

theorem State.getPair_setLo_of_ne {p q : Pair} (s : State) (v : Byte) (h : q ≠ p) :
    (s.setLo p v).getPair q = s.getPair q := State.getPair_setPair_of_ne s _ h

/-- Settles O14: the halves of a pair are bits 15:8 and 7:0 of it, and a half is written through the pair. -/
theorem pairAndHalvesAreOneStorage : Obligations.PairAndHalvesAreOneStorage := by
  intro s p v x
  refine ⟨State.getPair_setPair_same s p v, join_hi_lo v, ⟨rfl, rfl⟩, ⟨rfl, rfl⟩, ⟨rfl, rfl⟩, ⟨rfl, rfl⟩,
    State.getPair_setHi_same s p x, State.getPair_setLo_same s p x, fun q hq => ⟨?_, ?_, ?_⟩⟩
  · exact State.getPair_setPair_of_ne s v hq
  · exact State.getPair_setHi_of_ne s x hq
  · exact State.getPair_setLo_of_ne s x hq

/-! The 8-bit registers (R20, R22). -/

@[simp] theorem State.getR8_setR8_same (s : State) (r : Reg8) (v : Byte) : (s.setR8 r v).getR8 r = v := by
  cases r <;> simp

theorem State.getR8_setR8_of_ne {r q : Reg8} (s : State) (v : Byte) (h : q ≠ r) :
    (s.setR8 r v).getR8 q = s.getR8 q := by
  cases r <;> cases q <;> simp at h ⊢

@[simp] theorem State.getF_setR8 (s : State) (r : Reg8) (v : Byte) : (s.setR8 r v).getF = s.getF := by
  cases r <;> simp [State.getF]

/-- Settles O15: the register written and every other one, then F, which has no register code. -/
theorem registerReadAfterWrite : Obligations.RegisterReadAfterWrite := by
  intro s r q v
  refine ⟨?_, State.getF_setR8 s r v⟩
  by_cases h : q = r
  · rw [if_pos h, h, State.getR8_setR8_same]
  · rw [if_neg h, State.getR8_setR8_of_ne s v h]

/-! The Flag Codec (R25, R26). -/

/-- The flag `id` among the four given. -/
def flagOf (z n h c : Bool) (id : FlagId) : Bool :=
  match id with
  | .zero => z
  | .subtract => n
  | .halfCarry => h
  | .carry => c

@[simp] theorem getFlag_flagsByte (z n h c : Bool) (id : FlagId) :
    getFlag (flagsByte z n h c) id = flagOf z n h c id := by
  obtain ⟨hz, hn, hh, hc, _⟩ := flagsByte_flags z n h c
  cases id
  · exact hz
  · exact hn
  · exact hh
  · exact hc

@[simp] theorem flagsByte_low_nibble (z n h c : Bool) : (flagsByte z n h c).extractLsb' 0 4 = 0 := by
  obtain ⟨_, _, _, _, hlow⟩ := flagsByte_flags z n h c
  exact hlow

/-- `setFlag` changes the one flag and keeps the other three (R26). -/
theorem getFlag_setFlag (f : Byte) (x y : FlagId) (b : Bool) :
    getFlag (setFlag f x b) y = if y = x then b else getFlag f y := by
  rw [setFlag, getFlag_flagsByte]
  cases x <;> cases y <;> rfl

/-- Settles O16: F is a flags byte after SetFlags and after setFlag, and four setFlag calls set all four flags. -/
theorem flagCodecBits : Obligations.FlagCodecBits := by
  intro f z n h c b x y
  refine ⟨⟨rfl, rfl, rfl, rfl⟩, flagsByte_flags z n h c, getFlag_setFlag f x y b, flagsByte_low_nibble _ _ _ _, ?_⟩
  rw [setFlag]
  simp [getFlag_setFlag]

/-! The Snapshot (R38) and the state after reset (R40). -/

/-- 16 bits above the low word of a fused value are 16 bits of its upper part. -/
theorem extractLsb'_append_word {n : Nat} (x : BitVec n) (y : Word) (k : Nat) :
    (x ++ y).extractLsb' (k + 16) 16 = x.extractLsb' k 16 := by
  rw [BitVec.extractLsb'_append_eq_of_le (Nat.le_add_left 16 k), Nat.add_sub_cancel]

/-- The four words of `a ‖ b ‖ c ‖ d` at their places. -/
theorem extractLsb'_append_words (a b c d : Word) :
    (a ++ b ++ c ++ d).extractLsb' 48 16 = a ∧ (a ++ b ++ c ++ d).extractLsb' 32 16 = b ∧
      (a ++ b ++ c ++ d).extractLsb' 16 16 = c ∧ (a ++ b ++ c ++ d).extractLsb' 0 16 = d := by
  refine ⟨?_, ?_, ?_, BitVec.extractLsb'_append_eq_right⟩
  · calc _ = (a ++ b ++ c).extractLsb' 32 16 := extractLsb'_append_word _ d 32
      _ = (a ++ b).extractLsb' 16 16 := extractLsb'_append_word _ c 16
      _ = a := BitVec.extractLsb'_append_eq_left
  · calc _ = (a ++ b ++ c).extractLsb' 16 16 := extractLsb'_append_word _ d 16
      _ = (a ++ b).extractLsb' 0 16 := extractLsb'_append_word _ c 0
      _ = b := BitVec.extractLsb'_append_eq_right
  · calc _ = (a ++ b ++ c).extractLsb' 0 16 := extractLsb'_append_word _ d 0
      _ = c := BitVec.extractLsb'_append_eq_right

/-- Settles O17: the places of four fused words, and of two. -/
theorem snapshotFusedReads : Obligations.SnapshotFusedReads := by
  intro s
  obtain ⟨haf, hbc, hde, hhl⟩ := extractLsb'_append_words s.af s.bc s.de s.hl
  exact ⟨haf, hbc, hde, hhl, BitVec.extractLsb'_append_eq_left, BitVec.extractLsb'_append_eq_right⟩

/-- Settles O6: `State.reset` writes each of these values out. -/
theorem resetState : Obligations.ResetState :=
  ⟨rfl, rfl, rfl, rfl, rfl, rfl, rfl, rfl, rfl, rfl, rfl, rfl, rfl, rfl⟩

end Sys2Proof.Machine
end

section
/-! ### A whole instruction: its cells one after another, then the fetch (R102, R103, R105) -/

namespace Sys2Proof.Machine

/-! The scratch fields `seq`, `zlo` and `zhi`: which cycles read or write them. -/

/-- A new value for one scratch field. -/
inductive Scratch where
  | seq (q : SeqState)
  | zlo (x : Byte)
  | zhi (x : Byte)

/-- Write the value into its field. -/
def Scratch.put (c : Scratch) (s : State) : State :=
  match c with
  | .seq q => { s with seq := q }
  | .zlo x => { s with zlo := x }
  | .zhi x => { s with zhi := x }

def Scratch.isZlo (c : Scratch) : Bool :=
  match c with
  | .zlo _ => true
  | .seq _ | .zhi _ => false

def Scratch.isZhi (c : Scratch) : Bool :=
  match c with
  | .zhi _ => true
  | .seq _ | .zlo _ => false

/-- The effective address depends on the field (R59). -/
def Mode.reads (m : Mode) (c : Scratch) : Bool :=
  match m with
  | .highImm => c.isZlo
  | .abs | .absNext => c.isZlo || c.isZhi
  | .hl | .hlInc | .hlDec | .bc | .de | .highC => false

/-- The byte a store writes depends on the field. -/
def Source.reads (x : Source) (c : Scratch) : Bool :=
  match x with
  | .latch => c.isZlo
  | .reg _ | .spLo | .spHi => false

/-- The work of the cycle reads the field (R105). -/
def MicroOp.reads (w : MicroOp) (c : Scratch) : Bool :=
  match w with
  | .fromLatch _ | .hlFromSp => c.isZlo
  | .pairFromLatches _ | .spFromLatches => c.isZlo || c.isZhi
  | .load _ m => m.reads c
  | .store x m => x.reads c || m.reads c
  | .wait | .latchLo | .latchHi | .copy _ _ | .spFromHL | .spDec | .pushHi _ | .pushLo _ | .popLo _ | .popHi _ => false
  | .alu _ _ | .compare _ => false

/-- The work of the cycle writes the field (R105). -/
def MicroOp.latches (w : MicroOp) (c : Scratch) : Bool :=
  match w with
  | .latchLo => c.isZlo
  | .latchHi => c.isZhi
  | _ => false

section Put
variable (c : Scratch) (s : State)

theorem Scratch.getPair_put (p : Pair) : (c.put s).getPair p = s.getPair p := by
  cases c <;> rfl

theorem Scratch.getR8_put (r : Reg8) : (c.put s).getR8 r = s.getR8 r := by
  cases c <;> rfl

theorem Scratch.setPair_put (p : Pair) (v : Word) : (c.put s).setPair p v = c.put (s.setPair p v) := by
  cases c <;> cases p <;> rfl

theorem Scratch.setHi_put (p : Pair) (v : Byte) : (c.put s).setHi p v = c.put (s.setHi p v) := by
  simp only [State.setHi, Scratch.getPair_put, Scratch.setPair_put]

theorem Scratch.setLo_put (p : Pair) (v : Byte) : (c.put s).setLo p v = c.put (s.setLo p v) := by
  simp only [State.setLo, Scratch.getPair_put, Scratch.setPair_put]

theorem Scratch.setR8_put (r : Reg8) (v : Byte) : (c.put s).setR8 r v = c.put (s.setR8 r v) := by
  cases c <;> cases r <;> rfl

theorem Scratch.store_put (a : Word) (v : Byte) : (c.put s).store a v = c.put (s.store a v) := by
  cases c <;> rfl

theorem Scratch.byteAt_put (a : Word) : (c.put s).byteAt a = s.byteAt a := by
  cases c <;> rfl

theorem Scratch.adjust_put (m : Mode) : m.adjust (c.put s) = c.put (m.adjust s) := by
  cases c <;> cases m <;> rfl

theorem Scratch.sp_put : (c.put s).sp = s.sp := by
  cases c <;> rfl

theorem Scratch.setSp_put (v : Word) : { c.put s with sp := v } = c.put { s with sp := v } := by
  cases c <;> rfl

theorem Scratch.aluWrite_put (op : AluOp) (r : Reg8) : (c.put s).aluWrite op r = c.put (s.aluWrite op r) := by
  cases c <;> rfl

theorem Scratch.compare_put (r : Reg8) : (c.put s).compare r = c.put (s.compare r) := by
  cases hp : s.params.cpFlags <;> cases c <;> simp only [State.compare, Scratch.put, hp] <;> rfl

variable {c}

theorem Scratch.zlo_put (h : c.isZlo = false) : (c.put s).zlo = s.zlo := by
  cases c with
  | zlo x => cases h
  | _ => rfl

theorem Scratch.imm_put (h : (c.isZlo || c.isZhi) = false) : (c.put s).imm = s.imm := by
  cases c with
  | seq q => rfl
  | _ => cases h

theorem Scratch.ea_put {m : Mode} (h : m.reads c = false) : m.ea (c.put s) = m.ea s := by
  cases m with
  | highImm => exact congrArg highPage (Scratch.zlo_put s h)
  | abs => exact Scratch.imm_put s h
  | absNext => exact congrArg (· + 1) (Scratch.imm_put s h)
  | _ => cases c <;> rfl

theorem Scratch.value_put {x : Source} (h : x.reads c = false) : x.value (c.put s) = x.value s := by
  cases x with
  | latch => exact Scratch.zlo_put s h
  | _ => cases c <;> rfl

theorem Scratch.hlFromSp_put (h : c.isZlo = false) : (c.put s).hlFromSp = c.put s.hlFromSp := by
  cases c with
  | zlo x => cases h
  | _ => rfl

/-- The work of a cycle that neither reads nor writes a scratch field acts the same whatever the field holds. -/
theorem MicroOp.run_put {w : MicroOp} (hr : w.reads c = false) (hl : w.latches c = false) :
    w.run (c.put s) = c.put (w.run s) := by
  cases w with
  | wait => rfl
  | latchLo =>
    cases c with
    | zlo x => cases hl
    | _ => rfl
  | latchHi =>
    cases c with
    | zhi x => cases hl
    | _ => rfl
  | copy dst src => simp only [MicroOp.run, Scratch.getR8_put, Scratch.setR8_put]
  | fromLatch dst => simp only [MicroOp.run, Scratch.zlo_put s hr, Scratch.setR8_put]
  | load dst m =>
    simp only [MicroOp.run, Scratch.ea_put s hr, Scratch.byteAt_put, Scratch.setR8_put, Scratch.adjust_put]
  | store x m =>
    obtain ⟨hx, hm⟩ := Bool.or_eq_false_iff.mp hr
    simp only [MicroOp.run, Scratch.ea_put s hm, Scratch.value_put s hx, Scratch.store_put, Scratch.adjust_put]
  | pairFromLatches p => simp only [MicroOp.run, Scratch.imm_put s hr, Scratch.setPair_put]
  | spFromLatches => simp only [MicroOp.run, Scratch.imm_put s hr, Scratch.setSp_put]
  | spFromHL | spDec => cases c <;> rfl
  | pushHi p =>
    simp only [MicroOp.run, Scratch.sp_put, Scratch.getPair_put, Scratch.store_put, Scratch.setSp_put]
  | pushLo p => simp only [MicroOp.run, Scratch.sp_put, Scratch.getPair_put, Scratch.store_put]
  | popLo p =>
    simp only [MicroOp.run, Scratch.sp_put, Scratch.byteAt_put, Scratch.setLo_put, Scratch.setSp_put]
  | popHi p =>
    simp only [MicroOp.run, Scratch.sp_put, Scratch.byteAt_put, Scratch.setHi_put, Scratch.setSp_put]
  | hlFromSp => exact Scratch.hlFromSp_put s hr
  | alu op r => exact Scratch.aluWrite_put c s op r
  | compare r => exact Scratch.compare_put c s r

/-- A cycle that writes a latch does not depend on what the latch held. -/
theorem MicroOp.run_put_of_latches {w : MicroOp} (h : w.latches c = true) : w.run (c.put s) = w.run s := by
  cases w with
  | latchLo =>
    cases c with
    | zlo x => rfl
    | _ => cases h
  | latchHi =>
    cases c with
    | zhi x => rfl
    | _ => cases h
  | _ => cases h

end Put

/-! The run of an instruction from Boundary. -/

/-- The work of the cells of a schedule, one after another. -/
def runAll (ws : List MicroOp) (s : State) : State :=
  match ws with
  | [] => s
  | w :: rest => runAll rest (w.run s)

/-- No cell reads the scratch field before one has written it. -/
def deadIn (ws : List MicroOp) (c : Scratch) : Bool :=
  match ws with
  | [] => true
  | w :: rest => !w.reads c && (w.latches c || deadIn rest c)

/-- What a dead scratch field held is overwritten, or it is still there at the end; nothing else depends on it. -/
theorem runAll_put_of_deadIn {ws : List MicroOp} {c : Scratch} (s : State) (h : deadIn ws c = true) :
    runAll ws (c.put s) = runAll ws s ∨ runAll ws (c.put s) = c.put (runAll ws s) := by
  induction ws generalizing s with
  | nil => exact .inr rfl
  | cons w rest ih =>
    simp only [deadIn, Bool.and_eq_true, Bool.not_eq_true'] at h
    obtain ⟨hr, hrest⟩ := h
    cases hl : w.latches c with
    | true => exact .inl (congrArg (runAll rest) (MicroOp.run_put_of_latches s hl))
    | false =>
      rw [runAll, MicroOp.run_put s hr hl]
      exact ih (w.run s) (by simpa [hl] using hrest)

/-- Every form reads a latch only after it has latched its immediate (R33, R105). -/
theorem deadIn_schedule (p : Params) (f : Form) (c : Scratch) : deadIn (schedule p f) c = true := by
  obtain ⟨n, _, _⟩ := p
  cases f
  case ldSPHL => cases n <;> cases c <;> rfl
  all_goals cases c <;> rfl

theorem MicroOp.reads_seq (w : MicroOp) (q : SeqState) : w.reads (.seq q) = false := by
  cases w with
  | load dst m => cases m <;> rfl
  | store x m => cases x <;> cases m <;> rfl
  | _ => rfl

/-- No work of a cycle reads `seq`. -/
theorem deadIn_seq (ws : List MicroOp) (q : SeqState) : deadIn ws (.seq q) = true := by
  induction ws with
  | nil => rfl
  | cons w rest ih => simp [deadIn, MicroOp.reads_seq, ih]

/-- The fetch at the end overwrites `seq` (R102). -/
theorem overlappedFetch_runAll_put_seq (ws : List MicroOp) (q : SeqState) (s : State) :
    (runAll ws ((Scratch.seq q).put s)).overlappedFetch = (runAll ws s).overlappedFetch := by
  rcases runAll_put_of_deadIn s (deadIn_seq ws q) with h | h <;> rw [h]
  rfl

/-- `seq` when the cycles `done` are behind and `owed` cycles are to come (R102). -/
def seqAfter (done : List MicroOp) (owed : Nat) : SeqState :=
  match done with
  | [] => .boundary
  | _ :: _ => .inFlight owed

theorem runCycles_seqAfter {s : State} (done rest : List MicroOp) (w : MicroOp)
    (h : s.seq = seqAfter done (rest.length + 1)) :
    runCycles (done ++ w :: rest) s = .next (finishCycle rest.length (w.run s)) := by
  cases done with
  | nil => exact runCycles_boundary w rest h
  | cons d ds => exact runCycles_inFlight (d :: ds) rest w (List.cons_ne_nil d ds) h

/-- The rest of an instruction, from the cycle that is due: its cells, then the fetch. -/
theorem execTicks_rest {i : Instr} (hf : i.form ≠ .unimplemented) {done rest : List MicroOp} {s : State}
    (hs : schedule s.params i.form = done ++ rest) (hne : rest ≠ []) (hq : s.seq = seqAfter done rest.length) :
    execTicks i rest.length s = .next (runAll rest s).overlappedFetch := by
  induction rest generalizing done s with
  | nil => exact absurd rfl hne
  | cons w rest ih =>
    have hexec : exec i s = .next (finishCycle rest.length (w.run s)) := by
      rw [exec_eq, if_neg hf, hs]
      exact runCycles_seqAfter done rest w hq
    rw [List.length_cons, execTicks, hexec]
    cases rest with
    | nil => rfl
    | cons v vs =>
      have hput : finishCycle (v :: vs).length (w.run s) =
        (Scratch.seq (.inFlight (v :: vs).length)).put (w.run s) := rfl
      have hs' : schedule (finishCycle (v :: vs).length (w.run s)).params i.form = (done ++ [w]) ++ v :: vs := by
        simpa using hs
      have hq' : (finishCycle (v :: vs).length (w.run s)).seq = seqAfter (done ++ [w]) (v :: vs).length := by
        cases done <;> rfl
      calc execTicks i (v :: vs).length (finishCycle (v :: vs).length (w.run s))
          = .next (runAll (v :: vs) (finishCycle (v :: vs).length (w.run s))).overlappedFetch :=
            ih hs' (by simp) hq'
        _ = .next (runAll (v :: vs) (w.run s)).overlappedFetch := by
            rw [hput, overlappedFetch_runAll_put_seq]

/-- The ticks of an implemented instruction from Boundary: the work of its cells in order, then the fetch
(R102, R103, R105). -/
theorem execTicks_of_boundary {i : Instr} {s : State} (hf : i.form ≠ .unimplemented) (hq : s.seq = .boundary) :
    execTicks i (cyclesOf s.params i.form) s = .next (runAll (schedule s.params i.form) s).overlappedFetch := by
  rw [← schedule_length _ _ hf]
  exact execTicks_rest hf (done := []) rfl (schedule_ne_nil _ hf) hq

/-- The cells of a form give the same but for the latches, whatever the latches held. -/
theorem runAll_schedule_of_latches (p : Params) (f : Form) (s : State) (x y : Byte) :
    ∃ x' y', runAll (schedule p f) { s with zlo := x, zhi := y } =
      { runAll (schedule p f) s with zlo := x', zhi := y' } := by
  have hput : ({ s with zlo := x, zhi := y } : State) = (Scratch.zlo x).put ((Scratch.zhi y).put s) := rfl
  rw [hput]
  rcases runAll_put_of_deadIn ((Scratch.zhi y).put s) (deadIn_schedule p f (.zlo x)) with hlo | hlo <;>
    rcases runAll_put_of_deadIn s (deadIn_schedule p f (.zhi y)) with hhi | hhi <;>
    (rw [hlo, hhi]; exact ⟨_, _, rfl⟩)

/-- Settles O58: the latches are dead in every schedule, and the fetch after it does not read them. -/
theorem latchesAtBoundaryAreDead : Obligations.LatchesAtBoundaryAreDead := by
  intro i s x y hq hf
  obtain ⟨x', y', hrun⟩ := runAll_schedule_of_latches s.params i.form s x y
  have hu := execTicks_of_boundary (s := { s with zlo := x, zhi := y }) hf hq
  rw [hrun] at hu
  exact ⟨_, _, execTicks_of_boundary hf hq, hu, rfl⟩

/-! What the flag writers leave in F (R25, R27). -/

@[simp] theorem State.getF_setFlags (s : State) (z n h c : Bool) : (s.setFlags z n h c).getF = flagsByte z n h c :=
  lo_join _ _

theorem State.aluWrite_low_nibble (s : State) (op : AluOp) (r : Reg8) :
    (s.aluWrite op r).getF.extractLsb' 0 4 = 0 := by
  simp only [State.aluWrite, State.getF_setFlags, flagsByte_low_nibble]

theorem State.hlFromSp_low_nibble (s : State) : s.hlFromSp.getF.extractLsb' 0 4 = 0 := by
  simp only [State.hlFromSp, State.getF_setFlags, flagsByte_low_nibble]

theorem State.compare_low_nibble (s : State) (r : Reg8) : (s.compare r).getF.extractLsb' 0 4 = 0 := by
  rw [State.compare]
  split
  · rw [State.getF_setFlags, flagsByte_low_nibble]
  · exact (congrArg _ (State.getF_setFlags _ _ _ _ _)).trans (flagsByte_low_nibble _ _ _ _)

/-- The cells of a flag-writing form other than POP AF end with F[3:0] clear. -/
theorem runAll_schedule_low_nibble (p : Params) {f : Form} (s : State) (hw : writesFlags f = true)
    (hp : f ≠ .popAF) : (runAll (schedule p f) s).getF.extractLsb' 0 4 = 0 := by
  cases f with
  | alu op r => exact State.aluWrite_low_nibble s op r
  | compare r => exact State.compare_low_nibble s r
  | ldHLSPImm => exact State.hlFromSp_low_nibble (MicroOp.latchLo.run s)
  | popAF => exact absurd rfl hp
  | _ => cases hw

/-- Settles O57: the fetch after the cells leaves F alone. -/
theorem flagWritersClearLowNibble : Obligations.FlagWritersClearLowNibble := by
  intro i s t hw hp hq h
  have hf : i.form ≠ .unimplemented := fun hf => absurd hw (by rw [hf]; decide)
  rw [execTicks_of_boundary hf hq] at h
  injection h with h
  rw [← h]
  exact runAll_schedule_low_nibble s.params s hw hp

end Sys2Proof.Machine
end

section
/-! ### The frame of the registers: what each cycle may write, and each form (R24, R27, R28, R33, R105) -/

namespace Sys2Proof

/-- No opcode pops AF or loads it as a pair but POP AF, a form of its own (R23, R84). -/
theorem Instr.form_ne_af (i : Instr) : i.form ≠ .pop .af ∧ i.form ≠ .ldPairImm .af := by
  cases i <;> decide

/-- The format of a form (R80, R84). -/
def Form.format (f : Form) : Format :=
  match f with
  | .ldRegImm _ | .ldHLImm | .ldhAImm | .ldhImmA | .ldHLSPImm => .opI8
  | .ldAAbs | .ldAbsA | .ldPairImm _ | .ldSPImm | .ldAbsSP => .opI16
  | .nop | .ldRegReg _ _ | .ldRegHL _ | .ldAHLInc | .ldAHLDec | .ldHLReg _ | .ldHLIncA | .ldHLDecA => .op
  | .ldABC | .ldADE | .ldBCA | .ldDEA | .ldAC | .ldCA | .ldSPHL | .push _ | .pushAF | .pop _ | .popAF => .op
  | .alu _ _ | .compare _ | .unimplemented => .op

theorem Instr.format_eq (i : Instr) : i.format = i.form.format := by
  cases i <;> rfl

end Sys2Proof

namespace Sys2Proof.Machine

/-- The mode adjusts HL (R59). -/
def Mode.movesHL (m : Mode) : Bool :=
  match m with
  | .hlInc | .hlDec => true
  | .hl | .bc | .de | .highC | .highImm | .abs | .absNext => false

/-- The work of the cycle may write the 8-bit register. -/
def MicroOp.writesReg8 (w : MicroOp) (r : Reg8) : Bool :=
  match w with
  | .copy dst _ | .fromLatch dst => r = dst
  | .load dst m => r = dst || (m.movesHL && pairOfReg8 r = .hl)
  | .store _ m => m.movesHL && pairOfReg8 r = .hl
  | .pairFromLatches p | .popLo p | .popHi p => pairOfReg8 r = p
  | .hlFromSp => pairOfReg8 r = .hl
  | .alu _ _ => r = .a
  | .wait | .latchLo | .latchHi | .spFromLatches | .spFromHL | .spDec | .pushHi _ | .pushLo _ | .compare _ => false

/-- The work of the cycle may write F. -/
def MicroOp.writesFlags (w : MicroOp) : Bool :=
  match w with
  | .hlFromSp | .alu _ _ | .compare _ => true
  | .pairFromLatches p | .popLo p => p = .af
  | .wait | .latchLo | .latchHi | .copy _ _ | .fromLatch _ | .load _ _ | .store _ _ | .spFromLatches => false
  | .spFromHL | .spDec | .pushHi _ | .pushLo _ | .popHi _ => false

/-- The work of the cycle writes SP. -/
def MicroOp.writesSp (w : MicroOp) : Bool :=
  match w with
  | .spFromLatches | .spFromHL | .spDec | .pushHi _ | .popLo _ | .popHi _ => true
  | .wait | .latchLo | .latchHi | .copy _ _ | .fromLatch _ | .load _ _ | .store _ _ | .pairFromLatches _ => false
  | .pushLo _ | .hlFromSp | .alu _ _ | .compare _ => false

/-! The work of a cycle keeps what it does not write. -/

/-- An 8-bit register is as before where its pair is. -/
theorem State.getR8_congr {s t : State} {r : Reg8} (h : t.getPair (pairOfReg8 r) = s.getPair (pairOfReg8 r)) :
    t.getR8 r = s.getR8 r := by
  cases r
  case b | d | h | a => exact congrArg hi h
  case c | e | l => exact congrArg lo h

theorem State.getR8_setPair_of_ne {r : Reg8} {p : Pair} (s : State) (v : Word) (h : pairOfReg8 r ≠ p) :
    (s.setPair p v).getR8 r = s.getR8 r :=
  State.getR8_congr (State.getPair_setPair_of_ne s v h)

@[simp] theorem State.getR8_setFlags (s : State) (r : Reg8) (z n h c : Bool) :
    (s.setFlags z n h c).getR8 r = s.getR8 r := by
  cases r <;> simp

theorem Mode.getR8_adjust {m : Mode} {r : Reg8} (s : State)
    (h : (m.movesHL && decide (pairOfReg8 r = .hl)) = false) : (m.adjust s).getR8 r = s.getR8 r := by
  cases m
  case hlInc | hlDec => exact State.getR8_setPair_of_ne (p := .hl) s _ (of_decide_eq_false h)
  all_goals rfl

theorem Mode.getF_adjust (m : Mode) (s : State) : (m.adjust s).getF = s.getF := by
  cases m <;> rfl

theorem State.getR8_compare (s : State) (x r : Reg8) : (s.compare x).getR8 r = s.getR8 r := by
  rw [State.compare]
  split <;> exact State.getR8_setFlags s r _ _ _ _

theorem MicroOp.run_getR8 {w : MicroOp} {r : Reg8} (s : State) (h : w.writesReg8 r = false) :
    (w.run s).getR8 r = s.getR8 r := by
  cases w with
  | copy dst src => exact State.getR8_setR8_of_ne s _ (of_decide_eq_false h)
  | fromLatch dst => exact State.getR8_setR8_of_ne s _ (of_decide_eq_false h)
  | load dst m =>
    obtain ⟨hdst, hm⟩ := Bool.or_eq_false_iff.mp h
    exact (Mode.getR8_adjust _ hm).trans (State.getR8_setR8_of_ne s _ (of_decide_eq_false hdst))
  | store x m => exact Mode.getR8_adjust _ h
  | pairFromLatches p => exact State.getR8_setPair_of_ne s _ (of_decide_eq_false h)
  | popLo p => exact State.getR8_setPair_of_ne s _ (of_decide_eq_false h)
  | popHi p => exact State.getR8_setPair_of_ne s _ (of_decide_eq_false h)
  | hlFromSp =>
    exact (State.getR8_setFlags _ r _ _ _ _).trans (State.getR8_setPair_of_ne (p := .hl) s _ (of_decide_eq_false h))
  | alu op x =>
    exact (State.getR8_setFlags _ r _ _ _ _).trans (State.getR8_setR8_of_ne s _ (of_decide_eq_false h))
  | compare x => exact State.getR8_compare s x r
  | _ => rfl

theorem State.getF_setPair_of_ne {p : Pair} (s : State) (v : Word) (h : p ≠ .af) : (s.setPair p v).getF = s.getF :=
  congrArg lo (State.getPair_setPair_of_ne s v h.symm)

theorem State.getF_setHi (s : State) (p : Pair) (v : Byte) : (s.setHi p v).getF = s.getF := by
  cases p
  case af => exact lo_join v _
  all_goals rfl

theorem MicroOp.run_getF {w : MicroOp} (s : State) (h : w.writesFlags = false) : (w.run s).getF = s.getF := by
  cases w with
  | copy dst src => exact State.getF_setR8 s dst _
  | fromLatch dst => exact State.getF_setR8 s dst _
  | load dst m => exact (Mode.getF_adjust m _).trans (State.getF_setR8 s dst _)
  | store x m => exact Mode.getF_adjust m _
  | pairFromLatches p => exact State.getF_setPair_of_ne s _ (of_decide_eq_false h)
  | popLo p => exact State.getF_setPair_of_ne s _ (of_decide_eq_false h)
  | popHi p => exact State.getF_setHi s p _
  | hlFromSp | alu op r | compare r => cases h
  | _ => rfl

theorem State.compare_sp (s : State) (r : Reg8) : (s.compare r).sp = s.sp := by
  rw [State.compare]
  split <;> rfl

theorem State.compare_zlo (s : State) (r : Reg8) : (s.compare r).zlo = s.zlo := by
  rw [State.compare]
  split <;> rfl

theorem State.compare_zhi (s : State) (r : Reg8) : (s.compare r).zhi = s.zhi := by
  rw [State.compare]
  split <;> rfl

theorem MicroOp.run_sp {w : MicroOp} (s : State) (h : w.writesSp = false) : (w.run s).sp = s.sp := by
  cases w with
  | spFromLatches | spFromHL | spDec | pushHi p | popLo p | popHi p => cases h
  | compare r => exact State.compare_sp s r
  | alu op r => rfl
  | _ => simp [MicroOp.run, State.hlFromSp]

theorem MicroOp.run_zlo {w : MicroOp} {x : Byte} (s : State) (h : w.latches (.zlo x) = false) :
    (w.run s).zlo = s.zlo := by
  cases w with
  | latchLo => cases h
  | compare r => exact State.compare_zlo s r
  | alu op r => rfl
  | _ => simp [MicroOp.run, State.hlFromSp]

theorem MicroOp.run_zhi {w : MicroOp} {x : Byte} (s : State) (h : w.latches (.zhi x) = false) :
    (w.run s).zhi = s.zhi := by
  cases w with
  | latchHi => cases h
  | compare r => exact State.compare_zhi s r
  | alu op r => rfl
  | _ => simp [MicroOp.run, State.hlFromSp]

/-! The tables of what a form may write against the cells of its schedule (R105). -/

/-- A form writes an 8-bit register exactly if one of its cells does (R24). -/
theorem any_schedule_writesReg8 (p : Params) (f : Form) (r : Reg8) :
    (schedule p f).any (·.writesReg8 r) = writesReg8 f r := by
  obtain ⟨n, _, _⟩ := p
  cases f
  case ldSPHL => cases n <;> rfl
  case ldRegReg dst src => simp [schedule, ldRegRegCycles, MicroOp.writesReg8, writesReg8]
  case ldRegImm dst => simp [schedule, ldRegImmCycles, MicroOp.writesReg8, writesReg8]
  case ldRegHL dst => simp [schedule, ldRegHLCycles, MicroOp.writesReg8, writesReg8, Mode.movesHL]
  case ldPairImm q => simp [schedule, ldPairImmCycles, MicroOp.writesReg8, writesReg8]
  case pop q => simp [schedule, popCycles, MicroOp.writesReg8, writesReg8]
  all_goals cases r <;> rfl

/-- A form writes SP exactly if one of its cells does (R24, R28). -/
theorem any_schedule_writesSp (p : Params) (f : Form) : (schedule p f).any (·.writesSp) = writesSp f := by
  obtain ⟨n, _, _⟩ := p
  cases f
  case ldSPHL => cases n <;> rfl
  all_goals rfl

/-- A form writes F exactly if one of its cells does (R27). -/
theorem any_schedule_writesFlags (p : Params) {f : Form} (hpop : f ≠ .pop .af) (himm : f ≠ .ldPairImm .af) :
    (schedule p f).any (·.writesFlags) = writesFlags f := by
  obtain ⟨n, _, _⟩ := p
  cases f
  case ldSPHL => cases n <;> rfl
  case pop p =>
    cases p with
    | af => exact absurd rfl hpop
    | _ => rfl
  case ldPairImm p =>
    cases p with
    | af => exact absurd rfl himm
    | _ => rfl
  all_goals rfl

/-- The low latch is loaded by the forms with an immediate (R82, R105). -/
theorem any_schedule_latches_zlo (p : Params) (f : Form) (x : Byte) :
    (schedule p f).any (·.latches (.zlo x)) = decide (f.format ≠ .op) := by
  obtain ⟨n, _, _⟩ := p
  cases f
  case ldSPHL => cases n <;> rfl
  all_goals rfl

/-- The high latch is loaded by the forms with a 16-bit immediate (R82, R105). -/
theorem any_schedule_latches_zhi (p : Params) (f : Form) (x : Byte) :
    (schedule p f).any (·.latches (.zhi x)) = decide (f.format = .opI16) := by
  obtain ⟨n, _, _⟩ := p
  cases f
  case ldSPHL => cases n <;> rfl
  all_goals rfl

theorem eq_false_of_any_eq_false {ws : List MicroOp} {w : MicroOp} {q : MicroOp → Bool} (hws : ws.any q = false)
    (hw : w ∈ ws) : q w = false :=
  Bool.eq_false_iff.mpr (List.any_eq_false.mp hws w hw)

/-! The end of a cycle leaves the registers and latches alone (R102, R103). -/

theorem finishCycle_getR8 (n : Nat) (s : State) (r : Reg8) : (finishCycle n s).getR8 r = s.getR8 r := by
  cases n <;> rfl

theorem finishCycle_getF (n : Nat) (s : State) : (finishCycle n s).getF = s.getF := by
  cases n <;> rfl

theorem finishCycle_sp (n : Nat) (s : State) : (finishCycle n s).sp = s.sp := by
  cases n <;> rfl

theorem finishCycle_zlo (n : Nat) (s : State) : (finishCycle n s).zlo = s.zlo := by
  cases n <;> rfl

theorem finishCycle_zhi (n : Nat) (s : State) : (finishCycle n s).zhi = s.zhi := by
  cases n <;> rfl

/-- Settles O56: a cycle keeps what it does not write, and a form writes what some cell of its schedule writes. -/
theorem registersChangeOnlyByTheirForms : Obligations.RegistersChangeOnlyByTheirForms := by
  intro i s t h
  rcases exec_next h with ⟨_, _, _, rfl⟩ | ⟨_, _, rfl⟩ | ⟨_, w, owed, hd, rfl⟩
  · exact ⟨fun _ _ => rfl, fun _ => rfl, fun _ => rfl, fun _ => rfl, fun _ => rfl, rfl, rfl⟩
  · exact ⟨fun _ _ => rfl, fun _ => rfl, fun _ => rfl, fun _ => rfl, fun _ => rfl, rfl, rfl⟩
  · obtain ⟨hw, _⟩ := cycleDue_some hd
    obtain ⟨hpop, himm⟩ := Instr.form_ne_af i
    refine ⟨fun r hr => ?_, fun hf => ?_, fun hsp => ?_, fun hlo => ?_, fun hhi => ?_, ?_, ?_⟩
    · rw [finishCycle_getR8]
      exact MicroOp.run_getR8 s (eq_false_of_any_eq_false ((any_schedule_writesReg8 _ _ r).trans hr) hw)
    · rw [finishCycle_getF]
      exact MicroOp.run_getF s (eq_false_of_any_eq_false ((any_schedule_writesFlags _ hpop himm).trans hf) hw)
    · rw [finishCycle_sp]
      exact MicroOp.run_sp s (eq_false_of_any_eq_false ((any_schedule_writesSp _ _).trans hsp) hw)
    · have hany := any_schedule_latches_zlo s.params i.form 0
      rw [← Instr.format_eq, hlo] at hany
      rw [finishCycle_zlo]
      exact MicroOp.run_zlo s (eq_false_of_any_eq_false hany hw)
    · have hany := any_schedule_latches_zhi s.params i.form 0
      rw [← Instr.format_eq, decide_eq_false hhi] at hany
      rw [finishCycle_zhi]
      exact MicroOp.run_zhi s (eq_false_of_any_eq_false hany hw)
    · rw [finishCycle_params, MicroOp.run_params]
    · rw [finishCycle_driver, MicroOp.run_driver]

end Sys2Proof.Machine
end

section
/-! ### Memory: the canonical form, and the driver's writes to it (R50, R51, R62) -/

namespace Sys2Proof.Machine

/-- Reading after a write, address by address (R51). -/
theorem Memory.read_write {m : Memory} (a b : Word) (v : Byte) (h : m.wf = true) :
    (m.write a v).read b = if a = b then v else m.read b := by
  simpa only [Memory.read, Memory.write, BitVec.toNat_inj] using
    Memory.readKey_writeKey a.toNat b.toNat v h

theorem Memory.read_write_same {m : Memory} (a : Word) (v : Byte) (h : m.wf = true) : (m.write a v).read a = v := by
  rw [Memory.read_write a a v h, if_pos rfl]

theorem Memory.read_write_of_ne {m : Memory} {a b : Word} (v : Byte) (h : m.wf = true) (hab : a ≠ b) :
    (m.write a v).read b = m.read b := by
  rw [Memory.read_write a b v h, if_neg hab]

/-- Settles O12: the two laws of a write. -/
theorem memoryReadAfterWrite : Obligations.MemoryReadAfterWrite :=
  fun _ a b v h => ⟨Memory.read_write a b v h, Memory.wf_write a v h⟩

/-! Canonical memories are told apart by what they read as. -/

theorem Memory.readKey_cons_same (a : Nat) (v : Byte) (t : Memory) : Memory.readKey ((a, v) :: t) a = v := by
  simp [Memory.readKey]

theorem Memory.readKey_cons_of_ne {a k : Nat} (v : Byte) (t : Memory) (h : a ≠ k) :
    Memory.readKey ((a, v) :: t) k = t.readKey k := by
  simp [Memory.readKey, h]

/-- The first listed byte sets a memory apart from every one whose keys start above it. -/
theorem Memory.readKey_head_ne {n a : Nat} {v : Byte} {t m : Memory} (h : Memory.wfFrom n ((a, v) :: t) = true)
    (hm : m.wfFrom (a + 1) = true) : Memory.readKey ((a, v) :: t) a ≠ m.readKey a := by
  obtain ⟨_, _, hv, _⟩ := (Memory.wfFrom_cons n a v t).mp h
  rwa [Memory.readKey_cons_same, Memory.readKey_below hm (Nat.lt_succ_self a)]

/-- The keys of a canonical memory start at its first one. -/
theorem Memory.wfFrom_cons_of_lt {n k a : Nat} {v : Byte} {t : Memory} (h : Memory.wfFrom n ((a, v) :: t) = true)
    (hk : k < a) : Memory.wfFrom (k + 1) ((a, v) :: t) = true := by
  obtain ⟨_, ha⟩ := (Memory.wfFrom_cons n a v t).mp h
  exact (Memory.wfFrom_cons (k + 1) a v t).mpr ⟨hk, ha⟩

theorem Memory.eq_of_readKey_eq {m m' : Memory} {n : Nat} (h : m.wfFrom n = true) (h' : m'.wfFrom n = true)
    (hread : ∀ k < 65536, m.readKey k = m'.readKey k) : m = m' := by
  induction m generalizing n m' with
  | nil =>
    cases m' with
    | nil => rfl
    | cons c t' =>
      obtain ⟨b, w⟩ := c
      obtain ⟨_, hb, _, _⟩ := (Memory.wfFrom_cons n b w t').mp h'
      exact absurd (hread b hb).symm (Memory.readKey_head_ne h' rfl)
  | cons c t ih =>
    obtain ⟨a, v⟩ := c
    obtain ⟨_, ha, _, ht⟩ := (Memory.wfFrom_cons n a v t).mp h
    cases m' with
    | nil => exact absurd (hread a ha) (Memory.readKey_head_ne h rfl)
    | cons c t' =>
      obtain ⟨b, w⟩ := c
      obtain ⟨_, hb, _, ht'⟩ := (Memory.wfFrom_cons n b w t').mp h'
      rcases Nat.lt_trichotomy a b with hab | rfl | hba
      · exact absurd (hread a ha) (Memory.readKey_head_ne h (Memory.wfFrom_cons_of_lt h' hab))
      · have hvw : v = w := by
          simpa only [Memory.readKey_cons_same] using hread a ha
        have htail : t = t' := by
          refine ih ht ht' fun k hk => ?_
          by_cases hak : a = k
          · rw [Memory.readKey_below ht (by omega), Memory.readKey_below ht' (by omega)]
          · simpa only [Memory.readKey_cons_of_ne _ _ hak] using hread k hk
        rw [hvw, htail]
      · exact absurd (hread b hb).symm (Memory.readKey_head_ne h' (Memory.wfFrom_cons_of_lt h hba))

/-- Settles O13: induction along both lists; the smaller of two different first keys would be read differently. -/
theorem memoryCanonicalForm : Obligations.MemoryCanonicalForm :=
  fun _ _ h h' hread => Memory.eq_of_readKey_eq h h' fun k hk => by
    simpa [Memory.read, Nat.mod_eq_of_lt hk] using hread (BitVec.ofNat 16 k)

/-! The driver's turn under the two values of `P_ENV` (R62). -/

theorem State.act_mem_of_closed {s : State} (x : DriverAct) (h : s.params.env = .closed) : (s.act x).mem = s.mem := by
  cases x with
  | poke a v => rw [State.act, h]
  | reset => rfl

theorem State.foldl_act_of_closed (xs : List DriverAct) {s : State} (h : s.params.env = .closed) :
    (xs.foldl State.act s).mem = s.mem ∧ (xs.foldl State.act s).params = s.params := by
  induction xs generalizing s with
  | nil => exact ⟨rfl, rfl⟩
  | cons x xs ih =>
    obtain ⟨hmem, hparams⟩ := ih (s := s.act x) (by rwa [State.act_params])
    exact ⟨hmem.trans (State.act_mem_of_closed x h), hparams.trans (State.act_params s x)⟩

/-- Settles O8: no action of the script changes memory when P_ENV is CLOSED, and none changes the parameters. -/
theorem closedEnvKeepsMemory : Obligations.ClosedEnvKeepsMemory := by
  intro s h
  rw [State.driverTurn]
  split
  · exact ⟨rfl, rfl⟩
  · exact State.foldl_act_of_closed _ h

/-- `m` with the bytes at the addresses `as` taken from `src`. -/
def Memory.overwrite (src : Memory) (as : List Word) (m : Memory) : Memory :=
  match as with
  | [] => m
  | a :: rest => Memory.overwrite src rest (m.write a (src.read a))

theorem Memory.wf_overwrite {m : Memory} (src : Memory) (as : List Word) (h : m.wf = true) :
    (Memory.overwrite src as m).wf = true := by
  induction as generalizing m with
  | nil => exact h
  | cons a rest ih => exact ih (Memory.wf_write a _ h)

theorem Memory.read_overwrite {m : Memory} (src : Memory) (as : List Word) (b : Word) (h : m.wf = true) :
    (Memory.overwrite src as m).read b = if b ∈ as then src.read b else m.read b := by
  induction as generalizing m with
  | nil => rfl
  | cons a rest ih =>
    rw [Memory.overwrite, ih (Memory.wf_write a _ h)]
    by_cases hab : a = b
    · simp [hab, Memory.read_write_same _ _ h]
    · simp [Ne.symm hab, Memory.read_write_of_ne _ h hab]

/-- A memory written over at every address is the other memory. -/
theorem Memory.overwrite_eq {m src : Memory} {as : List Word} (h : m.wf = true) (hsrc : src.wf = true)
    (has : ∀ a, a ∈ as) : Memory.overwrite src as m = src := by
  refine memoryCanonicalForm _ _ (Memory.wf_overwrite src as h) hsrc fun a => ?_
  rw [Memory.read_overwrite src as a h, if_pos (has a)]

/-- The driver's writes that take the bytes at the addresses `as` from `src`. -/
def pokesFrom (src : Memory) (as : List Word) : List DriverAct := as.map fun a => .poke a (src.read a)

theorem State.foldl_act_pokesFrom {s : State} (src : Memory) (as : List Word) (h : s.params.env = .opened) :
    (pokesFrom src as).foldl State.act s = { s with mem := Memory.overwrite src as s.mem } := by
  induction as generalizing s with
  | nil => rfl
  | cons a rest ih =>
    have hact : s.act (.poke a (src.read a)) = s.store a (src.read a) := by
      rw [State.act, h]
    rw [pokesFrom, List.map_cons, List.foldl_cons, hact]
    exact ih h

theorem State.driverTurn_cons (s : State) (acts : List DriverAct) :
    ({ s with driver := acts :: s.driver } : State).driverTurn = acts.foldl State.act s := rfl

theorem exists_list_of_every_address : ∃ as : List Word, ∀ a, a ∈ as :=
  ⟨(List.finRange (2 ^ 16)).map BitVec.ofFin, fun a => List.mem_map.mpr ⟨a.toFin, List.mem_finRange _, rfl⟩⟩

/-- Settles O9: the driver pokes the byte of `m` at every address. -/
theorem openEnvReachesEveryMemory : Obligations.OpenEnvReachesEveryMemory := by
  intro s m hopen hs hm
  obtain ⟨as, has⟩ := exists_list_of_every_address
  refine ⟨pokesFrom m as, ?_⟩
  rw [State.driverTurn_cons, State.foldl_act_pokesFrom m as hopen, Memory.overwrite_eq hs hm has]

end Sys2Proof.Machine
end

section
/-! ### The Memory Bus: the accesses of a tick, and what they do to memory (R51, R58, R61, R105) -/

namespace Sys2Proof.Machine

/-! The work of one cycle. -/

/-- The work of the cycle writes memory (R105). -/
def MicroOp.writesMemory (w : MicroOp) : Bool :=
  match w with
  | .store _ _ | .pushHi _ | .pushLo _ => true
  | .wait | .latchLo | .latchHi | .copy _ _ | .fromLatch _ | .load _ _ | .pairFromLatches _ | .spFromLatches => false
  | .spFromHL | .spDec | .popLo _ | .popHi _ | .hlFromSp | .alu _ _ | .compare _ => false

theorem State.compare_mem (s : State) (r : Reg8) : (s.compare r).mem = s.mem := by
  rw [State.compare]
  split <;> rfl

/-- Everything the work of a cycle can do on the bus, and to memory: nothing, one read, or one write. -/
theorem MicroOp.bus_cases (w : MicroOp) (s : State) :
    (w.accesses s = [] ∧ (w.run s).mem = s.mem) ∨
      (∃ a, w.accesses s = [.read a (s.mem.read a)] ∧ (w.run s).mem = s.mem) ∨
      (w.writesMemory = true ∧ ∃ a v, w.accesses s = [.write a v] ∧ (w.run s).mem = s.mem.write a v) := by
  cases w with
  | latchLo | latchHi => exact .inr (.inl ⟨s.pc, rfl, rfl⟩)
  | load dst m => exact .inr (.inl ⟨m.ea s, rfl, by simp [MicroOp.run]⟩)
  | popLo p | popHi p => exact .inr (.inl ⟨s.sp, rfl, by simp [MicroOp.run]⟩)
  | store x m => exact .inr (.inr ⟨rfl, m.ea s, x.value s, rfl, by simp [MicroOp.run]⟩)
  | pushHi p => exact .inr (.inr ⟨rfl, s.sp, hi (s.getPair p), rfl, rfl⟩)
  | pushLo p => exact .inr (.inr ⟨rfl, s.sp, lo (s.getPair p), rfl, rfl⟩)
  | compare r => exact .inl ⟨rfl, State.compare_mem s r⟩
  | alu op r => exact .inl ⟨rfl, rfl⟩
  | _ => exact .inl ⟨rfl, by simp [MicroOp.run, State.hlFromSp]⟩

theorem MicroOp.accesses_length_le (w : MicroOp) (s : State) : (w.accesses s).length ≤ 1 := by
  rcases w.bus_cases s with ⟨h, _⟩ | ⟨a, h, _⟩ | ⟨_, a, v, h, _⟩ <;> simp [h]

/-! The accesses of one tick. -/

/-- The opcode fetch of a tick that ended in `t`: the read of the byte now in `opcode`, if the instruction ended. -/
def State.fetchRead (t : State) : List BusAccess := if t.seq = .boundary then [.read (t.pc - 1) t.opcode] else []

theorem finishCycle_seq_eq_boundary {n : Nat} {s : State} : (finishCycle n s).seq = .boundary ↔ n = 0 := by
  cases n <;> simp [finishCycle]

/-- A cycle's accesses are its work's, then the fetch's (R61). -/
theorem busOfCycles_of_cycleDue {sched : List MicroOp} {s : State} {w : MicroOp} {owed : Nat}
    (h : cycleDue sched s.seq = some (w, owed)) :
    busOfCycles sched s = w.accesses s ++ (finishCycle owed (w.run s)).fetchRead := by
  cases owed with
  | zero => simp [busOfCycles, h, finishCycle, State.fetchRead, State.fetchByte, State.byteAt]
  | succ n => simp [busOfCycles, h, finishCycle, State.fetchRead]

theorem busOfCycles_of_fault {sched : List MicroOp} {s : State} {op : Byte} {a : Word} (h : s.seq = .fault op a) :
    busOfCycles sched s = [] := by
  simp [busOfCycles, h, cycleDue]

theorem busOf_of_unimplemented {i : Instr} {s : State} (hf : i.form = .unimplemented) (hq : s.seq = .boundary) :
    busOf i s = [] := by
  simp [busOf, busOfCycles, hf, hq, schedule, cycleDue]

/-- The access is a read, and of the byte the memory `m` holds. -/
def BusAccess.ReadsFrom (x : BusAccess) (m : Memory) : Prop :=
  match x with
  | .read a v => m.read a = v
  | .write _ _ => False

/-- The fetch reads memory as the cycle has left it (R61, R103). -/
theorem readsFrom_of_mem_fetchRead {n : Nat} {s : State} {x : BusAccess} (h : x ∈ (finishCycle n s).fetchRead) :
    x.ReadsFrom s.mem := by
  cases n with
  | zero =>
    have hx : x = .read s.pc (s.mem.read s.pc) := by simpa [finishCycle, State.fetchRead] using h
    rw [hx]
    rfl
  | succ n => simp [finishCycle, State.fetchRead] at h

/-! The forms that write memory. -/

/-- A form stores to memory exactly if one of its cells writes it (R58). -/
theorem any_schedule_writesMemory (p : Params) (f : Form) :
    (schedule p f).any (·.writesMemory) = storesMemory f := by
  obtain ⟨n, _, _⟩ := p
  cases f
  case ldSPHL => cases n <;> rfl
  all_goals rfl

theorem storesMemory_of_mem_schedule {p : Params} {f : Form} {w : MicroOp} (hw : w ∈ schedule p f)
    (h : w.writesMemory = true) : storesMemory f = true := by
  rw [← any_schedule_writesMemory p]
  exact List.any_eq_true.mpr ⟨w, hw, h⟩

/-! What a tick does to memory. -/

/-- What a tick can do to memory, with its accesses: it only reads, and memory is as before; or the instruction is a
store form, and memory changes by the one write on the bus. -/
theorem exec_bus_cases {i : Instr} {s t : State} (h : exec i s = .next t) :
    (t.mem = s.mem ∧ ∀ x ∈ busOf i s, x.ReadsFrom t.mem) ∨
      (storesMemory i.form = true ∧ ∃ a v, t.mem = s.mem.write a v ∧ .write a v ∈ busOf i s ∧
        ∀ x ∈ busOf i s, x = .write a v ∨ x.ReadsFrom t.mem) := by
  rcases exec_next h with ⟨op, a, hq, rfl⟩ | ⟨hf, hq, rfl⟩ | ⟨_, w, owed, hd, rfl⟩
  · exact .inl ⟨rfl, by simp [busOf, busOfCycles_of_fault hq]⟩
  · exact .inl ⟨rfl, by simp [busOf_of_unimplemented hf hq]⟩
  · obtain ⟨hw, _⟩ := cycleDue_some hd
    have hfetch (x : BusAccess) (hx : x ∈ (finishCycle owed (w.run s)).fetchRead) : x.ReadsFrom (w.run s).mem :=
      readsFrom_of_mem_fetchRead hx
    rw [busOf, busOfCycles_of_cycleDue hd, finishCycle_mem]
    rcases w.bus_cases s with ⟨hacc, hmem⟩ | ⟨a, hacc, hmem⟩ | ⟨hww, a, v, hacc, hmem⟩
    · rw [hacc]
      exact .inl ⟨hmem, hfetch⟩
    · rw [hacc]
      exact .inl ⟨hmem, List.forall_mem_cons.mpr ⟨congrArg (Memory.read · a) hmem, hfetch⟩⟩
    · rw [hacc]
      exact .inr ⟨storesMemory_of_mem_schedule hw hww, a, v, hmem, List.mem_cons_self,
        List.forall_mem_cons.mpr ⟨.inl rfl, fun x hx => .inr (hfetch x hx)⟩⟩

/-- Settles O54: a tick that only reads leaves memory alone; the one write of another follows the laws of a write. -/
theorem memoryChangesOnlyByBusWrites : Obligations.MemoryChangesOnlyByBusWrites := by
  intro i s t hs h
  rcases exec_bus_cases h with ⟨hmem, hbus⟩ | ⟨_, a, v, hmem, hin, hbus⟩
  · exact ⟨fun b _ => congrArg (Memory.read · b) hmem, fun b x hx => (hbus _ hx).elim, fun b x hx => hbus _ hx⟩
  · refine ⟨fun b hb => ?_, fun b x hx => ?_, fun b x hx => ?_⟩
    · have hab : a ≠ b := by
        rintro rfl
        exact hb v hin
      rw [hmem, Memory.read_write_of_ne v hs hab]
    · rcases hbus _ hx with hw | hr
      · cases hw
        rw [hmem, Memory.read_write_same a v hs]
      · exact hr.elim
    · rcases hbus _ hx with hw | hr
      · cases hw
      · exact hr

/-- Settles O55: a tick of such a form only reads. -/
theorem onlyStoreFormsChangeMemory : Obligations.OnlyStoreFormsChangeMemory := by
  intro i s t hf h
  rcases exec_bus_cases h with ⟨hmem, hbus⟩ | ⟨hstore, _⟩
  · exact ⟨fun a => congrArg (Memory.read · a) hmem, fun a v hx => (hbus _ hx).elim⟩
  · rw [hf] at hstore
    cases hstore

/-! The forms that make two accesses on one tick. -/

/-- The cycle that is due is a cell of the schedule, and the cells after it are those still owed (R102). -/
theorem cycleDue_suffix {sched : List MicroOp} {q : SeqState} {w : MicroOp} {owed : Nat}
    (h : cycleDue sched q = some (w, owed)) : ∃ rest, w :: rest <:+ sched ∧ rest.length = owed := by
  cases q with
  | fault op a => cases h
  | boundary =>
    cases sched with
    | nil => cases h
    | cons x rest =>
      cases h
      exact ⟨rest, List.suffix_rfl, rfl⟩
  | inFlight n =>
    rw [cycleDue] at h
    split at h
    · split at h
      · cases h
      · rename_i x rest hdrop
        cases h
        exact ⟨rest, hdrop ▸ List.drop_suffix _ _, rfl⟩
    · cases h

theorem getLast?_of_cycleDue_zero {sched : List MicroOp} {q : SeqState} {w : MicroOp}
    (h : cycleDue sched q = some (w, 0)) : sched.getLast? = some w := by
  obtain ⟨rest, ⟨pre, rfl⟩, hrest⟩ := cycleDue_suffix h
  rw [List.length_eq_zero_iff.mp hrest, List.getLast?_append]
  rfl

/-- Only LD (HL),d8, LDH A,(a8) and LDH (a8),A end with a cell that uses the bus (R105). -/
theorem form_of_last_accesses {p : Params} {f : Form} {w : MicroOp} {s : State}
    (hlast : (schedule p f).getLast? = some w) (hw : w.accesses s ≠ []) :
    f = .ldHLImm ∨ f = .ldhAImm ∨ f = .ldhImmA := by
  obtain ⟨n, _, _⟩ := p
  cases f
  case ldHLImm => exact .inl rfl
  case ldhAImm => exact .inr (.inl rfl)
  case ldhImmA => exact .inr (.inr rfl)
  case ldSPHL => cases n <;> cases hlast <;> exact absurd rfl hw
  case unimplemented => cases hlast
  all_goals
    cases hlast
    exact absurd rfl hw

/-- Each of the three forms has one opcode (R84). -/
theorem Instr.eq_of_form_last_accesses {i : Instr} (h : i.form = .ldHLImm ∨ i.form = .ldhAImm ∨ i.form = .ldhImmA) :
    i = .ldIndHLImm ∨ i = .ldhAImm ∨ i = .ldhImmA := by
  revert h
  cases i <;> decide

/-- Settles O53: the work of a cycle is at most one access, and the last cell of the other forms is none. -/
theorem busAccessesInOrder : Obligations.BusAccessesInOrder := by
  intro i s t hnf hf h
  rcases exec_next h with ⟨op, a, hq, _⟩ | ⟨hf', _⟩ | ⟨_, w, owed, hd, rfl⟩
  · exact absurd hq (hnf op a)
  · exact absurd hf' hf
  · refine ⟨w.accesses s, w.accesses_length_le s, busOfCycles_of_cycleDue hd, fun hq hw => ?_⟩
    rw [finishCycle_seq_eq_boundary.mp hq] at hd
    exact Instr.eq_of_form_last_accesses (form_of_last_accesses (getLast?_of_cycleDue_zero hd) hw)

end Sys2Proof.Machine
end

section
/-! ### The decoder, the encoder and the classification (R80 to R86) -/

namespace Sys2Proof

/-! When an instruction is well formed, by the kind of its immediate (R80). -/

@[simp] theorem Code.wellFormed_none {i : Instr} : (Code.mk i .none).wellFormed = true ↔ i.format = .op := by
  unfold Code.wellFormed
  cases i.format <;> simp

@[simp] theorem Code.wellFormed_imm8 {i : Instr} {v : Byte} :
    (Code.mk i (.imm8 v)).wellFormed = true ↔ i.format = .opI8 := by
  unfold Code.wellFormed
  cases i.format <;> simp

@[simp] theorem Code.wellFormed_imm16 {i : Instr} {v : Word} :
    (Code.mk i (.imm16 v)).wellFormed = true ↔ i.format = .opI16 := by
  unfold Code.wellFormed
  cases i.format <;> simp

/-! What an opcode byte and the bytes after it decode to, by the format of its instruction (R80, R82). -/

theorem decode_op {i : Instr} (hf : i.format = .op) (rest : List Byte) :
    decode (i.opcode :: rest) = .ok (⟨i, .none⟩, rest) := by
  simp only [decode, decodeOpcode_opcode, hf]

theorem decode_opI8 {i : Instr} (hf : i.format = .opI8) (v : Byte) (rest : List Byte) :
    decode (i.opcode :: v :: rest) = .ok (⟨i, .imm8 v⟩, rest) := by
  simp only [decode, decodeOpcode_opcode, hf]

theorem decode_opI16 {i : Instr} (hf : i.format = .opI16) (l h : Byte) (rest : List Byte) :
    decode (i.opcode :: l :: h :: rest) = .ok (⟨i, .imm16 (h ++ l)⟩, rest) := by
  simp only [decode, decodeOpcode_opcode, hf]

/-- A one-byte immediate is there if the instruction decodes. -/
theorem exists_one_of_decode_opI8 {i : Instr} (hf : i.format = .opI8) {bytes : List Byte} {r : Code × List Byte}
    (hd : decode (i.opcode :: bytes) = .ok r) : ∃ v tail, bytes = v :: tail := by
  match bytes with
  | [] => simp [decode, decodeOpcode_opcode, hf] at hd
  | v :: tail => exact ⟨v, tail, rfl⟩

/-- Both bytes of a two-byte immediate are there if the instruction decodes. -/
theorem exists_two_of_decode_opI16 {i : Instr} (hf : i.format = .opI16) {bytes : List Byte} {r : Code × List Byte}
    (hd : decode (i.opcode :: bytes) = .ok r) : ∃ l h tail, bytes = l :: h :: tail := by
  match bytes with
  | [] => simp [decode, decodeOpcode_opcode, hf] at hd
  | [_] => simp [decode, decodeOpcode_opcode, hf] at hd
  | l :: h :: tail => exact ⟨l, h, tail, rfl⟩

/-! The bytes of a two-byte immediate, low byte first, and back (R82). -/

theorem Imm.bytes_imm16_append (h l : Byte) : (Imm.imm16 (h ++ l)).bytes = [l, h] :=
  congrArg₂ (fun x y => [x, y]) (Machine.lo_join h l) (Machine.hi_join h l)

theorem append_bytes_of_word (v : Word) : v.extractLsb' 8 8 ++ v.extractLsb' 0 8 = v := Machine.join_hi_lo v

/-! The round trips. -/

/-- Decoding inverts encoding on well-formed instructions. -/
theorem decode_encode {x : Code} (rest : List Byte) (hx : x.wellFormed = true) :
    decode (encode x ++ rest) = .ok (x, rest) := by
  obtain ⟨i, m⟩ := x
  cases m with
  | none => exact decode_op (Code.wellFormed_none.mp hx) rest
  | imm8 v => exact decode_opI8 (Code.wellFormed_imm8.mp hx) v rest
  | imm16 v =>
    calc decode (encode ⟨i, .imm16 v⟩ ++ rest)
      _ = .ok (⟨i, .imm16 (v.extractLsb' 8 8 ++ v.extractLsb' 0 8)⟩, rest) :=
        decode_opI16 (Code.wellFormed_imm16.mp hx) _ _ rest
      _ = .ok (⟨i, .imm16 v⟩, rest) := by rw [append_bytes_of_word]

/-- Every list of bytes that decodes is the encoding of a well-formed instruction, then the rest: each byte is an
opcode, and its instruction's format says how many bytes follow. -/
theorem encode_decode {bytes rest : List Byte} {x : Code} (hd : decode bytes = .ok (x, rest)) :
    x.wellFormed = true ∧ encode x ++ rest = bytes := by
  cases bytes with
  | nil => cases hd
  | cons b tail =>
    obtain ⟨i, rfl⟩ : ∃ i : Instr, i.opcode = b := ⟨_, opcode_decodeOpcode b⟩
    cases hf : i.format with
    | op =>
      rw [decode_op hf] at hd
      cases hd
      exact ⟨Code.wellFormed_none.mpr hf, rfl⟩
    | opI8 =>
      obtain ⟨v, tail, rfl⟩ := exists_one_of_decode_opI8 hf hd
      rw [decode_opI8 hf] at hd
      cases hd
      exact ⟨Code.wellFormed_imm8.mpr hf, rfl⟩
    | opI16 =>
      obtain ⟨l, h, tail, rfl⟩ := exists_two_of_decode_opI16 hf hd
      rw [decode_opI16 hf] at hd
      cases hd
      exact ⟨Code.wellFormed_imm16.mpr hf, by rw [encode, Imm.bytes_imm16_append]; rfl⟩

/-- Settles O3: by the kind of the immediate, which well-formedness ties to the format. -/
theorem decodeEncodeRoundTrip : Obligations.DecodeEncodeRoundTrip :=
  fun _ rest => decode_encode rest

/-- Settles O4: by the format of the instruction the first byte is the opcode of. -/
theorem encodeDecodeRoundTrip : Obligations.EncodeDecodeRoundTrip :=
  fun _ _ _ => encode_decode

/-! The opcode map and the classification (R83 to R85). -/

/-- The form of the instruction a byte decodes to is the byte's classification. -/
theorem form_decodeOpcode (op : Byte) : (decodeOpcode op).form = classify op :=
  calc (decodeOpcode op).form
    _ = classify (decodeOpcode op).opcode := (classify_opcode _).symm
    _ = classify op := by rw [opcode_decodeOpcode]

/-- The bytes that R83 classifies as unimplemented, in increasing order. -/
def unimplementedBytes : List Nat :=
  (List.range 256).filter fun n => classify (BitVec.ofNat 8 n) = .unimplemented

theorem mem_unimplementedBytes (op : Byte) : op.toNat ∈ unimplementedBytes ↔ classify op = .unimplemented := by
  simp [unimplementedBytes, op.isLt]

/-- Settles O1: the two tables agree through the instruction's own opcode; the list of R85 is the bytes that the
classification, run over all 256, leaves unimplemented. -/
theorem opcodeMapAgreesWithClassify : Obligations.OpcodeMapAgreesWithClassify := by
  refine ⟨form_decodeOpcode, fun op => (mem_unimplementedBytes op).symm.trans ?_, ?_⟩
  · apply Iff.of_eq
    apply congrArg (op.toNat ∈ ·)
    decide +kernel
  · decide +kernel

/-- Settles O2: the words are the encodings of well-formed instructions, the last one with a byte after it. -/
theorem sampleWordsDecode : Obligations.SampleWordsDecode :=
  ⟨decode_encode (x := ⟨.nop, .none⟩) [] rfl, decode_encode (x := ⟨.ldBA, .none⟩) [] rfl,
    decode_encode (x := ⟨.ldLImm, .imm8 0xFF⟩) [] rfl, decode_encode (x := ⟨.ldIndHLIncA, .none⟩) [] rfl,
    decode_encode (x := ⟨.ldAAbs, .imm16 0x01FF⟩) [] rfl, decode_encode (x := ⟨.pushDE, .none⟩) [] rfl,
    decode_encode (x := ⟨.sbcC, .none⟩) [] rfl, decode_encode (x := ⟨.unimplCB, .none⟩) [0x11] rfl⟩

end Sys2Proof
end

section
/-! ### A step, and the ticks of an instruction against its net effect (R102 to R107) -/

namespace Sys2Proof.Machine

/-- The first byte decides which instruction a list of bytes decodes to (R83). -/
theorem decodeOpcode_of_decode {op : Byte} {bytes rest : List Byte} {x : Code}
    (h : decode (op :: bytes) = .ok (x, rest)) : decodeOpcode op = x.instr := by
  obtain ⟨_, henc⟩ := encode_decode h
  have hop : x.instr.opcode = op := (List.cons.inj henc).1
  rw [← hop, decodeOpcode_opcode]

/-- Settles O5: an empty script is no turn of the driver, and the opcode names the instruction decoded. -/
theorem stepRunsDecodedInstruction : Obligations.StepRunsDecodedInstruction := by
  refine ⟨fun s x rest hdriver hdec => ?_, fun _ => rfl⟩
  rw [step, State.driverTurn_nil hdriver, tick, decodeOpcode_of_decode hdec]

/-! Which cells fetch an immediate byte; no other moves PC (R103, R105). -/

/-- The work of the cycle is the fetch of an immediate byte (R105). -/
def MicroOp.fetchesImm (w : MicroOp) : Bool :=
  match w with
  | .latchLo | .latchHi => true
  | .wait | .copy _ _ | .fromLatch _ | .load _ _ | .store _ _ | .pairFromLatches _ | .spFromLatches => false
  | .spFromHL | .spDec | .pushHi _ | .pushLo _ | .popLo _ | .popHi _ | .hlFromSp | .alu _ _ | .compare _ => false

theorem State.compare_pc (s : State) (r : Reg8) : (s.compare r).pc = s.pc := by
  rw [State.compare]
  split <;> rfl

theorem MicroOp.run_pc_of_fetchesImm {w : MicroOp} (s : State) (h : w.fetchesImm = true) :
    (w.run s).pc = s.pc + 1 := by
  cases w with
  | latchLo | latchHi => rfl
  | _ => cases h

theorem MicroOp.run_pc_of_not_fetchesImm {w : MicroOp} (s : State) (h : w.fetchesImm = false) :
    (w.run s).pc = s.pc := by
  cases w with
  | latchLo | latchHi => cases h
  | compare r => exact State.compare_pc s r
  | alu op r => rfl
  | _ => simp [MicroOp.run, State.hlFromSp]

theorem MicroOp.accesses_of_fetchesImm {w : MicroOp} (s : State) (h : w.fetchesImm = true) :
    w.accesses s = [.read s.pc (s.mem.read s.pc)] := by
  cases w with
  | latchLo | latchHi => rfl
  | _ => cases h

theorem runAll_pc (ws : List MicroOp) (s : State) :
    (runAll ws s).pc = s.pc + BitVec.ofNat 16 (ws.countP MicroOp.fetchesImm) := by
  induction ws generalizing s with
  | nil => simp [runAll]
  | cons w rest ih =>
    rw [runAll, ih]
    cases h : w.fetchesImm with
    | true =>
      rw [MicroOp.run_pc_of_fetchesImm s h, List.countP_cons_of_pos h, BitVec.ofNat_add, BitVec.add_assoc,
        BitVec.add_comm 1]
      rfl
    | false => rw [MicroOp.run_pc_of_not_fetchesImm s h, List.countP_cons_of_neg (by simp [h])]

/-- An instruction is its opcode and the immediate bytes its cells fetch (R80, R105). -/
theorem bytesOf_eq (p : Params) (i : Instr) : bytesOf i = (schedule p i.form).countP MicroOp.fetchesImm + 1 := by
  obtain ⟨n, _, _⟩ := p
  rw [bytesOf, Instr.format_eq]
  cases i.form
  case ldSPHL => cases n <;> rfl
  all_goals rfl

/-- No form ends with the fetch of an immediate byte (R105). -/
theorem not_fetchesImm_of_last {p : Params} {f : Form} {w : MicroOp} (h : (schedule p f).getLast? = some w) :
    w.fetchesImm = false := by
  obtain ⟨n, _, _⟩ := p
  cases f
  case ldSPHL => cases n <;> cases h <;> rfl
  all_goals cases h <;> rfl

/-- Settles O51: the last cell of an instruction leaves PC to the fetch, and another cell that moves PC reads the
immediate byte there. -/
theorem opcodeAndPcChangeOnlyByFetch : Obligations.OpcodeAndPcChangeOnlyByFetch := by
  intro i s t hnf hf h
  rcases exec_next h with ⟨op, a, hq, _⟩ | ⟨hf', _⟩ | ⟨_, w, owed, hd, rfl⟩
  · exact absurd hq (hnf op a)
  · exact absurd hf' hf
  · cases owed with
    | zero =>
      have hpc : (w.run s).pc = s.pc :=
        MicroOp.run_pc_of_not_fetchesImm s (not_fetchesImm_of_last (getLast?_of_cycleDue_zero hd))
      simp [finishCycle, hpc]
    | succ n =>
      refine ⟨fun hq => (nomatch hq), fun _ => ⟨w.run_opcode s, ?_⟩⟩
      cases hw : w.fetchesImm with
      | false => exact .inl (MicroOp.run_pc_of_not_fetchesImm s hw)
      | true =>
        refine .inr ⟨MicroOp.run_pc_of_fetchesImm s hw, ?_⟩
        rw [busOf, busOfCycles_of_cycleDue hd, MicroOp.accesses_of_fetchesImm s hw]
        rfl

/-! The cells of a form amount to its net effect (R105, R107). -/

/-- Both halves of a pair, one after the other, are the pair (R21). -/
theorem State.setHi_setLo (s : State) (p : Pair) (h l : Byte) : (s.setLo p l).setHi p h = s.setPair p (join h l) := by
  rw [State.setHi, State.getPair_setLo_same, lo_join]
  cases p <;> rfl

/-- The cells of PUSH (R164, R165). -/
theorem runAll_pushCycles (p : Pair) (s : State) : runAll (pushCycles p) s =
    { (s.store (s.sp - 1) (hi (s.getPair p))).store (s.sp - 2) (lo (s.getPair p)) with sp := s.sp - 2 } := by
  have hsp : s.sp - 2 = s.sp - 1 - 1 := (BitVec.sub_sub s.sp 1 1).symm
  rw [hsp]
  cases p <;> rfl

/-- The cells of POP (R166, R167). -/
theorem runAll_popCycles (p : Pair) (s : State) : runAll (popCycles p) s =
    { s.setPair p (join (s.byteAt (s.sp + 1)) (s.byteAt s.sp)) with sp := s.sp + 2 } := by
  have hsp : s.sp + 2 = s.sp + 1 + 1 := (BitVec.add_assoc s.sp 1 1).symm
  rw [hsp, ← State.setHi_setLo]
  cases p <;> rfl

/-- The state with another PC. -/
def State.setPc (s : State) (v : Word) : State := { s with pc := v }

/-- The two bytes of a 16-bit immediate come first (R105). -/
theorem runAll_latchBoth (ws : List MicroOp) (s : State) : runAll (.latchLo :: .latchHi :: ws) s =
    runAll ws { s with pc := s.pc + 1 + 1, zlo := s.byteAt s.pc, zhi := s.byteAt (s.pc + 1) } := rfl

/-- But for PC, the cells of a form do its net effect with the bytes at PC and after it (R107). -/
theorem runAll_schedule_setPc (p : Params) (f : Form) (s : State) (v : Word) :
    (runAll (schedule p f) s).setPc v = (netChange f (s.byteAt s.pc) (s.byteAt (s.pc + 1)) s).setPc v := by
  obtain ⟨n, _, _⟩ := p
  cases f
  case ldSPHL => cases n <;> rfl
  case ldRegImm dst => cases dst <;> rfl
  case ldPairImm q =>
    refine (congrArg (State.setPc · v) (runAll_latchBoth _ s)).trans ?_
    generalize s.byteAt s.pc = i1, s.byteAt (s.pc + 1) = i2
    cases q <;> rfl
  case ldSPImm | ldAAbs | ldAbsA | ldAbsSP =>
    refine (congrArg (State.setPc · v) (runAll_latchBoth _ s)).trans ?_
    generalize s.byteAt s.pc = i1, s.byteAt (s.pc + 1) = i2
    rfl
  case push q => exact congrArg (State.setPc · v) (runAll_pushCycles q s)
  case pushAF => exact congrArg (State.setPc · v) (runAll_pushCycles .af s)
  case pop q => exact congrArg (State.setPc · v) (runAll_popCycles q s)
  case popAF => exact congrArg (State.setPc · v) (runAll_popCycles .af s)
  all_goals rfl

/-- The cells of an instruction: its net effect, and PC past its immediate bytes (R105, R107). -/
theorem runAll_schedule_eq (i : Instr) (s : State) : runAll (schedule s.params i.form) s =
    (netChange i.form (s.byteAt s.pc) (s.byteAt (s.pc + 1)) s).setPc (s.pc + BitVec.ofNat 16 (bytesOf i - 1)) := by
  rw [← runAll_schedule_setPc s.params, bytesOf_eq s.params, Nat.add_sub_cancel, ← runAll_pc]
  rfl

/-- A whole instruction, its cells and then the fetch, is one instruction step (R107). -/
theorem overlappedFetch_runAll_schedule (i : Instr) (s : State) :
    (runAll (schedule s.params i.form) s).overlappedFetch = instrStep i s := by
  have hpc : s.pc + BitVec.ofNat 16 (bytesOf i - 1) + 1 = s.pc + BitVec.ofNat 16 (bytesOf i) := by
    rw [bytesOf_eq s.params, Nat.add_sub_cancel, BitVec.ofNat_add, BitVec.add_assoc]
    rfl
  rw [runAll_schedule_eq, instrStep, ← hpc]
  rfl

/-! The ticks of an instruction (R102). -/

/-- The cycles of the instruction in the opcode register, at the parameters of the state (R105). -/
def State.cells (s : State) : List MicroOp := schedule s.params (decodeOpcode s.opcode).form

theorem State.cells_finishCycle_run (n : Nat) (w : MicroOp) (s : State) :
    (finishCycle (n + 1) (w.run s)).cells = s.cells := by
  simp [State.cells, finishCycle]

/-- A tick does the work of the cycle that is due (R102). -/
theorem tick_of_cycleDue {s : State} {w : MicroOp} {owed : Nat} (h : cycleDue s.cells s.seq = some (w, owed)) :
    tick s = .next (finishCycle owed (w.run s)) := by
  have hf : (decodeOpcode s.opcode).form ≠ .unimplemented := by
    intro hf
    obtain ⟨hw, _⟩ := cycleDue_some h
    simp [State.cells, hf, schedule] at hw
  rw [tick, exec_eq, if_neg hf]
  exact runCycles_of_cycleDue h

/-- After a cycle that is not the last, the next one is due (R102). -/
theorem exists_cycleDue_next {sched : List MicroOp} {q : SeqState} {w : MicroOp} {n : Nat}
    (h : cycleDue sched q = some (w, n + 1)) : ∃ v, cycleDue sched (.inFlight (n + 1)) = some (v, n) := by
  obtain ⟨hw, hlt, _⟩ := cycleDue_some h
  obtain ⟨v, owed, hv⟩ := exists_cycleDue_of_inRange (List.ne_nil_of_mem hw) (.inr ⟨n + 1, rfl, n.succ_pos, hlt⟩)
  rcases cycleDue_some hv with ⟨_, _, ⟨hq, _⟩ | ⟨hq, _⟩⟩ <;> cases hq
  exact ⟨v, hv⟩

/-- Ticks short of the end of an instruction: the opcode stays, and a cycle of the instruction is still due
(R102, R103). -/
theorem ticks_of_cycleDue {k owed : Nat} {s : State} {w : MicroOp} (h : cycleDue s.cells s.seq = some (w, owed))
    (hk : k ≤ owed) :
    ∃ t v, ticks k s = .next t ∧ t.opcode = s.opcode ∧ cycleDue s.cells t.seq = some (v, owed - k) := by
  induction k generalizing s w owed with
  | zero => exact ⟨s, w, rfl, rfl, h⟩
  | succ k ih =>
    obtain ⟨n, rfl⟩ : ∃ n, owed = n + 1 := Nat.exists_eq_add_one.mpr (by omega)
    obtain ⟨v, hv⟩ := exists_cycleDue_next h
    rw [← State.cells_finishCycle_run n w s] at hv
    obtain ⟨t, u, ht, hop, hu⟩ := ih (s := finishCycle (n + 1) (w.run s)) hv (Nat.le_of_succ_le_succ hk)
    rw [State.cells_finishCycle_run] at hu
    rw [ticks, tick_of_cycleDue h, Nat.succ_sub_succ]
    exact ⟨t, u, ht, hop.trans (w.run_opcode s), hu⟩

/-- Up to the end of an instruction the machine's ticks are the instruction's (R102). -/
theorem ticks_eq_execTicks {k owed : Nat} {s : State} {w : MicroOp} (h : cycleDue s.cells s.seq = some (w, owed))
    (hk : k ≤ owed + 1) : ticks k s = execTicks (decodeOpcode s.opcode) k s := by
  induction k generalizing s w owed with
  | zero => rfl
  | succ k ih =>
    have hexec : exec (decodeOpcode s.opcode) s = .next (finishCycle owed (w.run s)) := tick_of_cycleDue h
    rw [ticks, tick, execTicks, hexec]
    cases owed with
    | zero =>
      rw [Nat.le_zero.mp (Nat.le_of_succ_le_succ hk)]
      rfl
    | succ n =>
      obtain ⟨v, hv⟩ := exists_cycleDue_next h
      rw [← State.cells_finishCycle_run n w s] at hv
      rw [← w.run_opcode s]
      exact ih (s := finishCycle (n + 1) (w.run s)) hv (Nat.le_of_succ_le_succ hk)

/-- In Boundary the first cycle of an implemented opcode is due, of as many as its length says (R102, R104). -/
theorem exists_cycleDue_of_boundary {s : State} (hq : s.seq = .boundary)
    (hf : (decodeOpcode s.opcode).form ≠ .unimplemented) :
    ∃ w owed, cycleDue s.cells s.seq = some (w, owed) ∧ owed + 1 = cyclesOf s.params (decodeOpcode s.opcode).form := by
  obtain ⟨w, owed, hd⟩ := exists_cycleDue_of_inRange (schedule_ne_nil s.params hf) (.inl hq)
  rcases cycleDue_some hd with ⟨_, _, ⟨_, howed⟩ | ⟨hin, _⟩⟩
  · exact ⟨w, owed, hd, howed.trans (schedule_length _ _ hf)⟩
  · rw [hq] at hin
    cases hin

/-- Settles O50: the ticks are the cells and then the fetch, which amount to the net effect. -/
theorem ticksRefineNetEffect : Obligations.TicksRefineNetEffect := by
  intro s hq hf
  obtain ⟨w, owed, hd, hlen⟩ := exists_cycleDue_of_boundary hq hf
  rw [ticks_eq_execTicks hd hlen.ge, execTicks_of_boundary hf hq, overlappedFetch_runAll_schedule]

/-- The opcode after an instruction step is the byte before PC of the memory it left (R103, R107). -/
theorem instrStep_opcode (i : Instr) (s : State) :
    (instrStep i s).opcode = (instrStep i s).mem.read ((instrStep i s).pc - 1) := by
  rw [← overlappedFetch_runAll_schedule, State.overlappedFetch_opcode, State.overlappedFetch_mem,
    State.overlappedFetch_pc, BitVec.add_sub_cancel]

/-- Settles O49: short of its length an instruction owes a cycle; at its length it has made the instruction step. -/
theorem instructionTakesLenTicks : Obligations.InstructionTakesLenTicks := by
  intro s hq hf len
  refine ⟨fun k hk hlt => ?_, _, ticksRefineNetEffect s hq hf, rfl, rfl, instrStep_opcode _ s⟩
  obtain ⟨w, owed, hd, hlen⟩ := exists_cycleDue_of_boundary hq hf
  have hlen' : s.cells.length = owed + 1 := (schedule_length _ _ hf).trans hlen.symm
  obtain ⟨t, v, ht, hop, hdue⟩ := ticks_of_cycleDue (k := k) hd (by omega)
  refine ⟨t, ht, ?_, hop⟩
  rcases cycleDue_some hdue with ⟨_, _, ⟨_, hend⟩ | ⟨hin, _⟩⟩
  · omega
  · rw [hin]
    congr 1
    omega

end Sys2Proof.Machine
end

section
/-! ### The fields of an opcode put together from them (R81, R83) -/

namespace Sys2Proof

/-- An opcode byte from its fields x, y and z, as a number. -/
theorem toNat_append_fields (x : BitVec 2) (y z : BitVec 3) :
    (x ++ y ++ z).toNat = (x.toNat * 8 + y.toNat) * 8 + z.toNat := by
  have hy := y.isLt
  have hz := z.isLt
  rw [BitVec.toNat_append, BitVec.toNat_append, ← Nat.shiftLeft_add_eq_or_of_lt hy,
    ← Nat.shiftLeft_add_eq_or_of_lt hz, Nat.shiftLeft_eq, Nat.shiftLeft_eq]

@[simp] theorem fieldX_append_fields (x : BitVec 2) (y z : BitVec 3) : fieldX (x ++ y ++ z) = x.toNat := by
  rw [fieldX, toNat_append_fields]
  omega

@[simp] theorem fieldY_append_fields (x : BitVec 2) (y z : BitVec 3) : fieldY (x ++ y ++ z) = y.toNat := by
  rw [fieldY, toNat_append_fields]
  omega

@[simp] theorem fieldZ_append_fields (x : BitVec 2) (y z : BitVec 3) : fieldZ (x ++ y ++ z) = z.toNat := by
  rw [fieldZ, toNat_append_fields]
  omega

/-- The code of a register names it (R22). -/
@[simp] theorem reg8OfCode_codeOfReg8 (r : Reg8) : reg8OfCode (codeOfReg8 r).toNat = some r := by
  cases r <;> rfl

/-- An instruction has the form its opcode byte is classified as (R83). -/
theorem Instr.form_of_opcode {i : Instr} {b : Byte} (h : i.opcode = b) : i.form = classify b := by
  rw [← h, classify_opcode]

/-- Past the first quadrant the two bytes that R83 names first are out of the question. -/
theorem ne_of_fieldX_ne_zero {b : Byte} (h : fieldX b ≠ 0) : b ≠ 0x00#8 ∧ b ≠ 0x08#8 :=
  ⟨fun hb => h (hb ▸ rfl), fun hb => h (hb ▸ rfl)⟩

/-- Opcode 01 ddd sss over two register codes is LD r,r' (R83, R121). -/
theorem classify_ldRegReg (dst src : Reg8) :
    classify (0b01#2 ++ codeOfReg8 dst ++ codeOfReg8 src) = .ldRegReg dst src := by
  have hx : fieldX (0b01#2 ++ codeOfReg8 dst ++ codeOfReg8 src) = 1 := fieldX_append_fields ..
  obtain ⟨h0, h8⟩ := ne_of_fieldX_ne_zero (by rw [hx]; decide)
  simp [classify, h0, h8, hx]

/-- Opcode 00 ddd 110 over a register code is LD r,d8 (R83, R122). -/
theorem classify_ldRegImm (dst : Reg8) : classify (0b00#2 ++ codeOfReg8 dst ++ 0b110#3) = .ldRegImm dst := by
  cases dst <;> rfl

end Sys2Proof
end

section
/-! ### NOP and the 8-bit register and immediate loads, cycle by cycle (R120 to R122) -/

namespace Sys2Proof.Machine

/-- A tick does the work of the cell whose turn it is: the cells `done` are behind it, `rest` is owed (R102). -/
theorem exec_of_schedule {i : Instr} {s : State} (done rest : List MicroOp) (w : MicroOp)
    (hs : schedule s.params i.form = done ++ w :: rest) (hq : s.seq = seqAfter done (rest.length + 1)) :
    exec i s = .next (finishCycle rest.length (w.run s)) := by
  have hf : i.form ≠ .unimplemented := by
    intro hf
    simp [hf, schedule] at hs
  rw [exec_eq, if_neg hf, hs]
  exact runCycles_seqAfter done rest w hq

/-- The fetch after the only cycle of an instruction leaves `seq` alone (R102, R103). -/
theorem State.overlappedFetch_of_boundary {s : State} (hq : s.seq = .boundary) :
    s.overlappedFetch = { s with opcode := s.mem.read s.pc, pc := s.pc + 1 } := by
  rw [State.overlappedFetch, ← hq]
  rfl

/-- An instruction of one cycle does the work of its cell and fetches the next opcode (R102, R103). -/
theorem exec_of_single_cell {i : Instr} {s : State} {w : MicroOp} (hs : schedule s.params i.form = [w])
    (hq : s.seq = .boundary) :
    exec i s = .next { w.run s with opcode := (w.run s).mem.read (w.run s).pc, pc := (w.run s).pc + 1 } :=
  calc exec i s
    _ = .next (w.run s).overlappedFetch := exec_of_schedule [] [] w hs hq
    _ = _ := by rw [State.overlappedFetch_of_boundary ((w.run_seq s).trans hq)]

/-- Settles O20: two cells, the latching of d8 and its transfer to the register. -/
theorem loadRegisterImmediate : Obligations.LoadRegisterImmediate := by
  intro i dst s hop hq d8 c0
  have hf : i.form = .ldRegImm dst := (Instr.form_of_opcode hop).trans (classify_ldRegImm dst)
  have hs (p : Params) : schedule p i.form = [.latchLo, .fromLatch dst] := by rw [hf]; rfl
  refine ⟨exec_of_schedule [] [.fromLatch dst] .latchLo (hs _) hq, ?_⟩
  have hpc : s.pc + 2 = s.pc + 1 + 1 := (BitVec.add_assoc s.pc 1 1).symm
  rw [exec_of_schedule [.latchLo] [] (.fromLatch dst) (hs _) rfl, hpc]
  cases dst <;> rfl

/-- Settles O19: one cell, the copy, which leaves PC and memory to the fetch. -/
theorem loadRegisterFromRegister : Obligations.LoadRegisterFromRegister := by
  intro i dst src s hop hq
  have hf : i.form = .ldRegReg dst src := (Instr.form_of_opcode hop).trans (classify_ldRegReg dst src)
  rw [exec_of_single_cell (w := .copy dst src) (by rw [hf]; rfl) hq]
  simp [MicroOp.run]

/-- Settles O18: one cell, which does nothing. -/
theorem nopExecutes : Obligations.NopExecutes :=
  ⟨rfl, fun _ hq => exec_of_single_cell (i := .nop) (w := .wait) rfl hq⟩

end Sys2Proof.Machine
end

section
/-! ### The opcodes of the register loads and stores through HL (R83, R130, R133) -/

namespace Sys2Proof

/-- Opcode 01 ddd 110 over a register code is LD r,(HL) (R83, R130). -/
theorem classify_ldRegHL (dst : Reg8) : classify (0b01#2 ++ codeOfReg8 dst ++ 0b110#3) = .ldRegHL dst := by
  cases dst <;> rfl

/-- Opcode 01 110 sss over a register code is LD (HL),r (R83, R133). -/
theorem classify_ldHLReg (r : Reg8) : classify (0b01#2 ++ 0b110#3 ++ codeOfReg8 r) = .ldHLReg r := by
  cases r <;> rfl

end Sys2Proof
end

section
/-! ### The 8-bit loads and stores through HL, cycle by cycle (R130 to R136) -/

namespace Sys2Proof.Machine

/-- The state after a cycle with one more owed (R102). -/
def State.oneOwed (s : State) : State := { s with seq := .inFlight 1 }

/-- An instruction of a cell of work and a wait: the first tick does the work, the second only fetches the next
opcode, from memory as the work left it (R102, R103, R106). -/
theorem exec_of_cell_then_wait {i : Instr} {s : State} (w : MicroOp) (hs : ∀ p, schedule p i.form = [w, .wait])
    (hq : s.seq = .boundary) :
    exec i s = .next (w.run s).oneOwed ∧ exec i (w.run s).oneOwed = .next (w.run s).overlappedFetch :=
  ⟨exec_of_schedule [] [.wait] w (hs _) hq, exec_of_schedule [w] [] .wait (hs _) rfl⟩

/-- Settles O21: the load, which leaves PC and memory to the fetch, and a wait. -/
theorem loadRegisterFromHL : Obligations.LoadRegisterFromHL := by
  intro i dst s hop hq c0
  have hf : i.form = .ldRegHL dst := (Instr.form_of_opcode hop).trans (classify_ldRegHL dst)
  obtain ⟨hfirst, hlast⟩ := exec_of_cell_then_wait (i := i) (.load dst .hl) (fun _ => by rw [hf]; rfl) hq
  refine ⟨hfirst, hlast.trans ?_⟩
  cases dst <;> rfl

/-- Settles O23: the store, which the fetch after the wait sees; `seq` is Boundary again. -/
theorem storeRegisterAtHL : Obligations.StoreRegisterAtHL := by
  intro i r s hop hq m c0
  have hf : i.form = .ldHLReg r := (Instr.form_of_opcode hop).trans (classify_ldHLReg r)
  obtain ⟨hfirst, hlast⟩ := exec_of_cell_then_wait (i := i) (.store (.reg r) .hl) (fun _ => by rw [hf]; rfl) hq
  refine ⟨hfirst, hlast.trans ?_⟩
  rw [State.overlappedFetch_of_boundary ((MicroOp.run_seq _ s).trans hq)]
  rfl

/-- Settles O22: each form is the load of A with its adjustment of HL, and a wait. -/
theorem loadAccumulatorHLAdjust : Obligations.LoadAccumulatorHLAdjust := by
  refine ⟨rfl, rfl, fun s hq => ?_⟩
  obtain ⟨hinc, hinc'⟩ := exec_of_cell_then_wait (i := .ldAIndHLInc) (.load .a .hlInc) (fun _ => rfl) hq
  obtain ⟨hdec, hdec'⟩ := exec_of_cell_then_wait (i := .ldAIndHLDec) (.load .a .hlDec) (fun _ => rfl) hq
  exact ⟨hinc, hinc', hdec, hdec'⟩

/-- Settles O24: the store of A with the increment of HL, and a wait. -/
theorem storeAccumulatorHLIncrement : Obligations.StoreAccumulatorHLIncrement :=
  ⟨rfl, fun _ hq => exec_of_cell_then_wait (i := .ldIndHLIncA) (.store (.reg .a) .hlInc) (fun _ => rfl) hq⟩

/-- Settles O25: the store of A with the decrement of HL, and a wait. -/
theorem storeAccumulatorHLDecrement : Obligations.StoreAccumulatorHLDecrement :=
  ⟨rfl, fun _ hq => exec_of_cell_then_wait (i := .ldIndHLDecA) (.store (.reg .a) .hlDec) (fun _ => rfl) hq⟩

/-- Settles O26: three cells, the latching of d8, a wait, and the store before the fetch. -/
theorem storeImmediateAtHL : Obligations.StoreImmediateAtHL := by
  refine ⟨rfl, fun s hq => ?_⟩
  have hs (p : Params) : schedule p Instr.ldIndHLImm.form = [.latchLo, .wait, .store .latch .hl] := rfl
  have hpc : s.pc + 2 = s.pc + 1 + 1 := (BitVec.add_assoc s.pc 1 1).symm
  refine ⟨exec_of_schedule [] [.wait, .store .latch .hl] .latchLo (hs _) hq,
    exec_of_schedule [.latchLo] [.store .latch .hl] .wait (hs _) rfl, ?_⟩
  rw [exec_of_schedule [.latchLo, .wait] [] (.store .latch .hl) (hs _) rfl, hpc]
  rfl

end Sys2Proof.Machine
end

section
/-! ### The accumulator through BC, DE, the high page and a16, cycle by cycle (R140 to R149) -/

namespace Sys2Proof.Machine

/-- In an instruction of a cell of work and a wait, the fetch of the last tick is from memory and PC as the work left
them, and `seq` is Boundary as it was (R102, R103, R106). -/
theorem exec_of_cell_then_wait_of_boundary {i : Instr} {s : State} (w : MicroOp)
    (hs : ∀ p, schedule p i.form = [w, .wait]) (hq : s.seq = .boundary) :
    exec i s = .next (w.run s).oneOwed ∧ exec i (w.run s).oneOwed =
      .next { w.run s with opcode := (w.run s).mem.read (w.run s).pc, pc := (w.run s).pc + 1 } := by
  rw [← State.overlappedFetch_of_boundary ((w.run_seq s).trans hq)]
  exact exec_of_cell_then_wait w hs hq

/-- Settles O27: each form is the load of A from its pair, and a wait. -/
theorem loadAccumulatorFromPair : Obligations.LoadAccumulatorFromPair := by
  refine ⟨rfl, rfl, fun s hq => ?_⟩
  obtain ⟨hbc, hbc'⟩ := exec_of_cell_then_wait (i := .ldAIndBC) (.load .a .bc) (fun _ => rfl) hq
  obtain ⟨hde, hde'⟩ := exec_of_cell_then_wait (i := .ldAIndDE) (.load .a .de) (fun _ => rfl) hq
  exact ⟨hbc, hbc', hde, hde'⟩

/-- Settles O28: each form is the store of A at its pair, and a wait. -/
theorem storeAccumulatorAtPair : Obligations.StoreAccumulatorAtPair := by
  refine ⟨rfl, rfl, fun s hq => ?_⟩
  obtain ⟨hbc, hbc'⟩ := exec_of_cell_then_wait_of_boundary (i := .ldIndBCA) (.store (.reg .a) .bc) (fun _ => rfl) hq
  obtain ⟨hde, hde'⟩ := exec_of_cell_then_wait_of_boundary (i := .ldIndDEA) (.store (.reg .a) .de) (fun _ => rfl) hq
  exact ⟨hbc, hbc', hde, hde'⟩

/-- Settles O29: the load of A or its store, at the high page address that C gives, and a wait. -/
theorem highPageByRegisterC : Obligations.HighPageByRegisterC := by
  refine ⟨rfl, rfl, fun s hq => ?_⟩
  obtain ⟨hld, hld'⟩ := exec_of_cell_then_wait (i := .ldAIndC) (.load .a .highC) (fun _ => rfl) hq
  obtain ⟨hst, hst'⟩ := exec_of_cell_then_wait_of_boundary (i := .ldIndCA) (.store (.reg .a) .highC) (fun _ => rfl) hq
  exact ⟨hld, hld', hst, hst'⟩

/-! The latching of an immediate (R53, R102). -/

theorem pc_add_two (a : Word) : a + 2 = a + 1 + 1 := (BitVec.add_assoc a 1 1).symm

theorem pc_add_three (a : Word) : a + 3 = a + 2 + 1 := (BitVec.add_assoc a 2 1).symm

/-- The state after the byte at PC is latched, with `owed` cycles to go. -/
def State.lowLatched (s : State) (owed : Nat) : State :=
  { s with zlo := s.mem.read s.pc, pc := s.pc + 1, seq := .inFlight owed }

/-- The state after the two bytes at PC are latched, the low one first, with `owed` cycles to go. -/
def State.wordLatched (s : State) (owed : Nat) : State :=
  { s with zlo := s.mem.read s.pc, zhi := s.mem.read (s.pc + 1), pc := s.pc + 2, seq := .inFlight owed }

/-- The first tick of an instruction with an immediate latches its low byte. -/
theorem exec_latches_low {i : Instr} {s : State} {w : MicroOp} {rest : List MicroOp}
    (hs : schedule s.params i.form = .latchLo :: w :: rest) (hq : s.seq = .boundary) :
    exec i s = .next (s.lowLatched (rest.length + 1)) :=
  exec_of_schedule [] (w :: rest) .latchLo hs hq

/-- The second tick of an instruction with a 16-bit immediate latches its high byte. -/
theorem exec_latches_high {i : Instr} {s : State} {w : MicroOp} {rest : List MicroOp}
    (hs : schedule s.params i.form = .latchLo :: .latchHi :: w :: rest) :
    exec i (s.lowLatched (rest.length + 2)) = .next (s.wordLatched (rest.length + 1)) := by
  rw [State.wordLatched, pc_add_two]
  exact exec_of_schedule [.latchLo] (w :: rest) .latchHi hs rfl

/-- An instruction that latches a byte, waits, and works on the last cycle before the fetch (R61, R102, R103). -/
theorem exec_of_latch_wait_cell {i : Instr} {s : State} (w : MicroOp)
    (hs : ∀ p, schedule p i.form = [.latchLo, .wait, w]) (hq : s.seq = .boundary) :
    exec i s = .next (s.lowLatched 2) ∧ exec i (s.lowLatched 2) = .next (s.lowLatched 1) ∧
      exec i (s.lowLatched 1) = .next (w.run (s.lowLatched 1)).overlappedFetch :=
  ⟨exec_latches_low (hs _) hq, exec_of_schedule [.latchLo] [w] .wait (hs _) rfl,
    exec_of_schedule [.latchLo, .wait] [] w (hs _) rfl⟩

/-- An instruction that latches a word, does a cell of work, and waits before the fetch (R102, R103, R106). -/
theorem exec_of_two_latches_cell_wait {i : Instr} {s : State} (w : MicroOp)
    (hs : ∀ p, schedule p i.form = [.latchLo, .latchHi, w, .wait]) (hq : s.seq = .boundary) :
    exec i s = .next (s.lowLatched 3) ∧ exec i (s.lowLatched 3) = .next (s.wordLatched 2) ∧
      exec i (s.wordLatched 2) = .next (w.run (s.wordLatched 2)).oneOwed ∧
      exec i (w.run (s.wordLatched 2)).oneOwed = .next (w.run (s.wordLatched 2)).overlappedFetch := by
  exact ⟨exec_latches_low (hs _) hq, exec_latches_high (hs _),
    exec_of_schedule [.latchLo, .latchHi] [.wait] w (hs _) rfl,
    exec_of_schedule [.latchLo, .latchHi, w] [] .wait (hs _) rfl⟩

/-- Settles O30: the latching of a8, a wait, and the load of A or its store before the fetch; `seq` is Boundary
again. -/
theorem highPageByImmediate : Obligations.HighPageByImmediate := by
  refine ⟨rfl, rfl, fun s hq => ?_⟩
  rw [pc_add_two, hq]
  exact ⟨exec_of_latch_wait_cell (i := .ldhAImm) (.load .a .highImm) (fun _ => rfl) hq,
    exec_of_latch_wait_cell (i := .ldhImmA) (.store (.reg .a) .highImm) (fun _ => rfl) hq⟩

/-- Settles O31: four cells, the latching of a16, the load of A, and a wait. -/
theorem loadAccumulatorAbsolute : Obligations.LoadAccumulatorAbsolute := by
  refine ⟨rfl, fun s hq => ?_⟩
  rw [pc_add_three]
  exact exec_of_two_latches_cell_wait (.load .a .abs) (fun _ => rfl) hq

/-- Settles O32: four cells, the latching of a16, the store of A, and a wait. -/
theorem storeAccumulatorAbsolute : Obligations.StoreAccumulatorAbsolute := by
  refine ⟨rfl, fun s hq => ?_⟩
  rw [pc_add_three]
  exact exec_of_two_latches_cell_wait (.store (.reg .a) .abs) (fun _ => rfl) hq

end Sys2Proof.Machine
end

section
/-! ### The opcodes of the 16-bit loads and the stack, and the cells they name (R83, R160, R164 to R167) -/

namespace Sys2Proof

/-- Opcode 00 pp0 001 over a pair code below 3 is LD rr,d16 (R83, R160). -/
theorem classify_ldPairImm {p : Pair} (h : p ≠ .af) :
    classify (0b00#2 ++ codeOfPair p ++ 0b0001#4) = .ldPairImm p := by
  cases p with
  | af => exact absurd rfl h
  | bc | de | hl => rfl

namespace Machine

/-- Opcode 11 pp0 101 over a pair code has the cells of PUSH; PUSH AF is a form of its own, with the same cells
(R83, R164, R165). -/
theorem schedule_push {i : Instr} {p : Pair} (h : i.opcode = 0b11#2 ++ codeOfPair p ++ 0b0101#4) (x : Params) :
    schedule x i.form = pushCycles p := by
  rw [Instr.form_of_opcode h]
  cases p <;> rfl

/-- Opcode 11 pp0 001 over a pair code has the cells of POP; POP AF is a form of its own, with the same cells
(R83, R166, R167). -/
theorem schedule_pop {i : Instr} {p : Pair} (h : i.opcode = 0b11#2 ++ codeOfPair p ++ 0b0001#4) (x : Params) :
    schedule x i.form = popCycles p := by
  rw [Instr.form_of_opcode h]
  cases p <;> rfl

end Machine
end Sys2Proof
end

section
/-! ### The 16-bit loads, cycle by cycle (R160 to R163, R168) -/

namespace Sys2Proof.Machine

/-- An instruction that latches a word and works on the last cycle before the fetch (R61, R102, R103). -/
theorem exec_of_two_latches_cell {i : Instr} {s : State} (w : MicroOp)
    (hs : ∀ p, schedule p i.form = [.latchLo, .latchHi, w]) (hq : s.seq = .boundary) :
    exec i s = .next (s.lowLatched 2) ∧ exec i (s.lowLatched 2) = .next (s.wordLatched 1) ∧
      exec i (s.wordLatched 1) = .next (w.run (s.wordLatched 1)).overlappedFetch :=
  ⟨exec_latches_low (hs _) hq, exec_latches_high (hs _), exec_of_schedule [.latchLo, .latchHi] [] w (hs _) rfl⟩

/-- Settles O33: three cells, the latching of d16 and its transfer to the pair. -/
theorem loadPairImmediate : Obligations.LoadPairImmediate := by
  intro i p s hp hop hq l h c0 c1
  have hf : i.form = .ldPairImm p := (Instr.form_of_opcode hop).trans (classify_ldPairImm hp)
  obtain ⟨hlo, hhi, hlast⟩ := exec_of_two_latches_cell (i := i) (.pairFromLatches p) (fun _ => by rw [hf]; rfl) hq
  refine ⟨hlo, hhi, hlast.trans ?_⟩
  rw [pc_add_three]
  cases p <;> rfl

/-- Settles O34: three cells, the latching of d16 and its transfer to SP; `seq` is Boundary again. -/
theorem loadSPImmediate : Obligations.LoadSPImmediate := by
  refine ⟨rfl, fun s hq => ?_⟩
  rw [pc_add_three, hq]
  exact exec_of_two_latches_cell (i := .ldSPImm) .spFromLatches (fun _ => rfl) hq

/-- Settles O35: five cells, the latching of a16, the stores of the two halves of SP, and a wait. -/
theorem storeSPAbsolute : Obligations.StoreSPAbsolute := by
  refine ⟨rfl, fun s hq => ?_⟩
  have hs (x : Params) : schedule x Instr.ldAbsSP.form =
    [.latchLo, .latchHi, .store .spLo .abs, .store .spHi .absNext, .wait] := rfl
  rw [pc_add_three]
  exact ⟨exec_latches_low (hs _) hq, exec_latches_high (hs _),
    exec_of_schedule [.latchLo, .latchHi] [.store .spHi .absNext, .wait] (.store .spLo .abs) (hs _) rfl,
    exec_of_schedule [.latchLo, .latchHi, .store .spLo .abs] [.wait] (.store .spHi .absNext) (hs _) rfl,
    exec_of_schedule [.latchLo, .latchHi, .store .spLo .abs, .store .spHi .absNext] [] .wait (hs _) rfl⟩

/-- Settles O36: the parameter says whether a wait follows the copy of HL. -/
theorem loadSPFromHL : Obligations.LoadSPFromHL := by
  refine ⟨rfl, fun s hq => ⟨fun hone => ?_, fun htwo => ?_⟩⟩
  · have hs : schedule s.params Instr.ldSPHL.form = [.spFromHL] := congrArg ldSPHLCycles hone
    exact exec_of_single_cell hs hq
  · have hs : schedule s.params Instr.ldSPHL.form = [.spFromHL, .wait] := congrArg ldSPHLCycles htwo
    rw [hq]
    exact ⟨exec_of_schedule [] [.wait] .spFromHL hs hq, exec_of_schedule [.spFromHL] [] .wait hs rfl⟩

/-- The sign extension of 00_scope.md section 8 is that of a bit vector. -/
theorem sext16_eq_signExtend (b : Byte) : sext16 b = b.signExtend 16 := by
  have hmsb : b.msb = b.getLsbD 7 := BitVec.msb_eq_getLsbD_last b
  rw [BitVec.signExtend_eq_append_of_le (by decide), BitVec.cast_eq, hmsb, sext16]
  cases b.getLsbD 7 <;> rfl

theorem toNat_lo (w : Word) : (lo w).toNat = w.toNat % 256 := by
  simp [lo]

theorem halfCarryOut_lo (w : Word) (b : Byte) :
    halfCarryOut (lo w) b false = decide (w.toNat % 16 + b.toNat % 16 > 0xF) := by
  rw [halfCarryOut, nibble, nibble, toNat_lo, Nat.mod_mod_of_dvd _ (by decide)]
  rfl

theorem carryOut_lo (w : Word) (b : Byte) :
    carryOut (lo w) b false = decide (w.toNat % 256 + b.toNat > 0xFF) := by
  rw [carryOut, toNat_lo]
  rfl

/-- The work of LD HL,SP+r8 with the displacement latched (R168). -/
theorem State.hlFromSp_eq (s : State) : s.hlFromSp = { s with
    hl := s.sp + s.zlo.signExtend 16
    af := s.getR8 .a ++ flagsByte false false (decide (s.sp.toNat % 16 + s.zlo.toNat % 16 > 0xF))
      (decide (s.sp.toNat % 256 + s.zlo.toNat > 0xFF)) } := by
  rw [State.hlFromSp, sext16_eq_signExtend, halfCarryOut_lo, carryOut_lo]
  rfl

/-- Settles O39: the latching of the displacement, the sum with its flags, and a wait. -/
theorem loadHLFromSPPlusDisplacement : Obligations.LoadHLFromSPPlusDisplacement := by
  refine ⟨rfl, fun s hq => ?_⟩
  have hs (x : Params) : schedule x Instr.ldHLSPImm.form = [.latchLo, .hlFromSp, .wait] := rfl
  have hsum := exec_of_schedule (s := s.lowLatched 2) [.latchLo] [.wait] .hlFromSp (hs _) rfl
  rw [MicroOp.run, State.hlFromSp_eq] at hsum
  rw [pc_add_two]
  exact ⟨exec_latches_low (hs _) hq, hsum, exec_of_schedule [.latchLo, .hlFromSp] [] .wait (hs _) rfl⟩

end Sys2Proof.Machine
end

section
/-! ### The stack, cycle by cycle (R164 to R167) -/

namespace Sys2Proof.Machine

theorem sp_sub_two (a : Word) : a - 2 = a - 1 - 1 := (BitVec.sub_sub a 1 1).symm

/-- Settles O37: four cells, the decrement of SP, the stores of the two halves, and a wait. -/
theorem pushExecutes : Obligations.PushExecutes := by
  intro i p s hop hq
  have hs (x : Params) : schedule x i.form = [.spDec, .pushHi p, .pushLo p, .wait] := schedule_push hop x
  rw [sp_sub_two]
  exact ⟨exec_of_schedule [] [.pushHi p, .pushLo p, .wait] .spDec (hs _) hq,
    exec_of_schedule [.spDec] [.pushLo p, .wait] (.pushHi p) (hs _) rfl,
    exec_of_schedule [.spDec, .pushHi p] [.wait] (.pushLo p) (hs _) rfl,
    exec_of_schedule [.spDec, .pushHi p, .pushLo p] [] .wait (hs _) rfl⟩

/-- Settles O38: three cells, the loads of the two halves, and a wait. -/
theorem popExecutes : Obligations.PopExecutes := by
  intro i p s hop hq l h c0 c1
  have hs (x : Params) : schedule x i.form = [.popLo p, .popHi p, .wait] := schedule_pop hop x
  have hhalves : s.setPair p (h ++ l) = (s.setLo p l).setHi p h := (State.setHi_setLo s p h l).symm
  have hhi : c1 = finishCycle 1 ((MicroOp.popHi p).run c0) := by
    simp only [c1, hhalves, pc_add_two]
    cases p <;> rfl
  refine ⟨exec_of_schedule [] [.popHi p, .wait] (.popLo p) (hs _) hq, ?_, ?_⟩
  · rw [hhi]
    exact exec_of_schedule [.popLo p] [.wait] (.popHi p) (hs _) rfl
  · rw [exec_of_schedule [.popLo p, .popHi p] [] .wait (hs _) rfl]
    cases p <;> rfl

/-! PUSH and then POP (R164 to R167). -/

/-- The ticks of an instruction from Boundary, by its cells (R102, R103, R105). -/
theorem execTicks_of_schedule {i : Instr} {s : State} {ws : List MicroOp} (hs : schedule s.params i.form = ws)
    (hne : ws ≠ []) (hq : s.seq = .boundary) : execTicks i ws.length s = .next (runAll ws s).overlappedFetch := by
  have hf : i.form ≠ .unimplemented := by
    intro hf
    rw [hf] at hs
    exact hne hs.symm
  exact execTicks_rest hf (done := []) hs hne hq

/-- The state after PUSH of a pair, but for the fetch: the pair lies below the old SP, high byte above low (R164,
R165). -/
def State.pushed (s : State) (p : Pair) : State :=
  { (s.store (s.sp - 1) (hi (s.getPair p))).store (s.sp - 2) (lo (s.getPair p)) with sp := s.sp - 2 }

/-- The state after POP of a pair, but for the fetch (R166, R167). -/
def State.popped (s : State) (p : Pair) : State :=
  { s.setPair p (join (s.byteAt (s.sp + 1)) (s.byteAt s.sp)) with sp := s.sp + 2 }

theorem execTicks_push {i : Instr} {p : Pair} {s : State} (h : i.opcode = 0b11#2 ++ codeOfPair p ++ 0b0101#4)
    (hq : s.seq = .boundary) : execTicks i 4 s = .next (s.pushed p).overlappedFetch := by
  rw [State.pushed, ← runAll_pushCycles]
  exact execTicks_of_schedule (schedule_push h _) (List.cons_ne_nil _ _) hq

theorem execTicks_pop {i : Instr} {p : Pair} {s : State} (h : i.opcode = 0b11#2 ++ codeOfPair p ++ 0b0001#4)
    (hq : s.seq = .boundary) : execTicks i 3 s = .next (s.popped p).overlappedFetch := by
  rw [State.popped, ← runAll_popCycles]
  exact execTicks_of_schedule (schedule_pop h _) (List.cons_ne_nil _ _) hq

@[simp] theorem State.getPair_overlappedFetch (s : State) (q : Pair) : s.overlappedFetch.getPair q = s.getPair q := by
  cases q <;> rfl

@[simp] theorem State.getPair_pushed (s : State) (p q : Pair) : (s.pushed p).getPair q = s.getPair q := by
  cases q <;> rfl

@[simp] theorem State.popped_mem (s : State) (p : Pair) : (s.popped p).mem = s.mem := s.setPair_mem p _

theorem State.getPair_popped_same (s : State) (p : Pair) :
    (s.popped p).getPair p = join (s.mem.read (s.sp + 1)) (s.mem.read s.sp) := by
  cases p <;> rfl

theorem State.getPair_popped_of_ne {p q : Pair} (s : State) (h : q ≠ p) : (s.popped p).getPair q = s.getPair q :=
  calc (s.popped p).getPair q
    _ = (s.setPair p (join (s.byteAt (s.sp + 1)) (s.byteAt s.sp))).getPair q := by cases q <;> rfl
    _ = s.getPair q := State.getPair_setPair_of_ne s _ h

section Pushed
variable {s : State} (p : Pair) (hw : s.mem.wf = true)
include hw

/-- The high byte of a pushed pair; the write of the low byte is at another address. -/
theorem State.read_pushed_high : (s.pushed p).mem.read (s.sp - 1) = hi (s.getPair p) :=
  calc (s.pushed p).mem.read (s.sp - 1)
    _ = (s.mem.write (s.sp - 1) (hi (s.getPair p))).read (s.sp - 1) :=
      Memory.read_write_of_ne _ (Memory.wf_write _ _ hw) (by bv_omega)
    _ = hi (s.getPair p) := Memory.read_write_same _ _ hw

theorem State.read_pushed_low : (s.pushed p).mem.read (s.sp - 2) = lo (s.getPair p) :=
  Memory.read_write_same _ _ (Memory.wf_write _ _ hw)

theorem State.read_pushed_of_ne {a : Word} (h1 : a ≠ s.sp - 1) (h2 : a ≠ s.sp - 2) :
    (s.pushed p).mem.read a = s.mem.read a :=
  calc (s.pushed p).mem.read a
    _ = (s.mem.write (s.sp - 1) (hi (s.getPair p))).read a :=
      Memory.read_write_of_ne _ (Memory.wf_write _ _ hw) h2.symm
    _ = s.mem.read a := Memory.read_write_of_ne _ hw h1.symm

end Pushed

/-- POP reads the two bytes where PUSH stored them. -/
theorem State.getPair_popped_of_pushed {s t : State} {p : Pair} (hw : s.mem.wf = true)
    (hmem : t.mem = (s.pushed p).mem) (hsp : t.sp = s.sp - 2) : (t.popped p).getPair p = s.getPair p := by
  have hsp1 : s.sp - 2 + 1 = s.sp - 1 := by bv_omega
  rw [State.getPair_popped_same, hmem, hsp, hsp1, State.read_pushed_high p hw, State.read_pushed_low p hw, join_hi_lo]

/-- Settles O48: POP reads back the halves that PUSH stored, writes no memory, and gives SP the two it lost. -/
theorem pushThenPopIsIdentity : Obligations.PushThenPopIsIdentity := by
  intro i j p s hpush hpop hq hw
  have hmem : ((s.pushed p).overlappedFetch.popped p).overlappedFetch.mem = (s.pushed p).mem := State.popped_mem _ p
  have hsp : s.sp - 2 + 2 = s.sp := BitVec.sub_add_cancel s.sp 2
  refine ⟨_, _, execTicks_push hpush hq, execTicks_pop hpop rfl, rfl, fun q => ?_, hsp, ?_, ?_, fun a h1 h2 => ?_⟩
  · rw [State.getPair_overlappedFetch]
    by_cases hqp : q = p
    · rw [hqp]
      exact State.getPair_popped_of_pushed hw rfl rfl
    · rw [State.getPair_popped_of_ne _ hqp, State.getPair_overlappedFetch, State.getPair_pushed]
  · rw [hmem]
    exact State.read_pushed_high p hw
  · rw [hmem]
    exact State.read_pushed_low p hw
  · rw [hmem]
    exact State.read_pushed_of_ne p hw h1 h2

end Sys2Proof.Machine
end

section
/-! ### The opcodes of the 8-bit ALU instructions (R83, R180) -/

namespace Sys2Proof

/-- Opcode 10 yyy zzz over a register code is the ALU instruction that the selector y names (R83, R180). -/
theorem classify_aluSelector (y : BitVec 3) (r : Reg8) : classify (0b10#2 ++ y ++ codeOfReg8 r) =
    if aluOfCode y.toNat = .cp then .compare r else .alu (aluOfCode y.toNat) r := by
  have hx : fieldX (0b10#2 ++ y ++ codeOfReg8 r) = 2 := fieldX_append_fields ..
  obtain ⟨h0, h8⟩ := ne_of_fieldX_ne_zero (by rw [hx]; decide)
  simp [classify, h0, h8, hx]

end Sys2Proof
end

section
/-! ### The 8-bit ALU: its answers as arithmetic, and its instructions (R180 to R190) -/

namespace Sys2Proof.Machine

/-! The lost bit is a quotient, what is left of it a remainder (R190). -/

/-- The carry out of a sum of two digits and a carry-in is the quotient by the base. -/
theorem toNat_decide_carry {x y base : Nat} (c : Bool) (hx : x < base) (hy : y < base) :
    (decide (x + y + c.toNat > base - 1)).toNat = (x + y + c.toNat) / base := by
  have hc := c.toNat_le
  by_cases h : x + y + c.toNat > base - 1
  · rw [decide_eq_true h, Nat.div_eq_of_lt_le (k := 1) (by omega) (by omega)]
    rfl
  · rw [decide_eq_false h, Nat.div_eq_of_lt (by omega)]
    rfl

/-- The borrow of a difference of two digits and a borrow-in is the quotient by the base, negated. -/
theorem toNat_decide_borrow {x y base : Nat} (c : Bool) (hx : x < base) (hy : y < base) :
    ((decide (x < y + c.toNat)).toNat : Int) = -(((x : Int) - y - c.toNat) / base) := by
  have hc := c.toNat_le
  by_cases h : x < y + c.toNat
  · have hq : ((x : Int) - y - c.toNat) / base = -1 := by
      rw [Int.ediv_eq_iff_of_pos (by omega)]
      omega
    rw [decide_eq_true h, hq]
    rfl
  · rw [decide_eq_false h, Int.ediv_eq_zero_of_lt (by omega) (by omega)]
    rfl

theorem nibble_lt (b : Byte) : nibble b < 16 := Nat.mod_lt _ (by decide)

theorem toNat_addMod (a b : Byte) (c : Bool) : (addMod a b c).toNat = (a.toNat + b.toNat + c.toNat) % 256 :=
  BitVec.toNat_ofNat _ _

theorem toNat_subMod (a b : Byte) (c : Bool) :
    ((subMod a b c).toNat : Int) = ((a.toNat : Int) - b.toNat - c.toNat) % 256 := by
  rw [subMod, BitVec.toNat_ofInt, Int.toNat_of_nonneg (Int.emod_nonneg _ (by decide))]
  rfl

/-- ADC with its carry is the exact sum (R190). -/
theorem addMod_add_carryOut (a b : Byte) (c : Bool) :
    (addMod a b c).toNat + 256 * (carryOut a b c).toNat = a.toNat + b.toNat + c.toNat := by
  rw [toNat_addMod, carryOut, toNat_decide_carry c a.isLt b.isLt, Nat.mod_add_div]

/-- ADC with its half-carry is the exact sum on the low nibbles (R190). -/
theorem nibble_addMod_add_halfCarryOut (a b : Byte) (c : Bool) :
    nibble (addMod a b c) + 16 * (halfCarryOut a b c).toNat = nibble a + nibble b + c.toNat := by
  have hres : nibble (addMod a b c) = (nibble a + nibble b + c.toNat) % 16 := by
    simp only [nibble, toNat_addMod]
    omega
  rw [hres, halfCarryOut, toNat_decide_carry c (nibble_lt a) (nibble_lt b), Nat.mod_add_div]

/-- SBC with its borrow is the exact difference (R190). -/
theorem subMod_sub_borrow (a b : Byte) (c : Bool) :
    ((subMod a b c).toNat : Int) - 256 * (borrow a b c).toNat = a.toNat - b.toNat - c.toNat := by
  rw [toNat_subMod, borrow, toNat_decide_borrow c a.isLt b.isLt, Int.mul_neg, Int.sub_neg]
  exact Int.emod_add_mul_ediv _ _

/-- SBC with its half-borrow is the exact difference on the low nibbles (R190). -/
theorem nibble_subMod_sub_halfBorrow (a b : Byte) (c : Bool) :
    (nibble (subMod a b c) : Int) - 16 * (halfBorrow a b c).toNat = (nibble a : Int) - nibble b - c.toNat := by
  have hsub := toNat_subMod a b c
  have hres : (nibble (subMod a b c) : Int) = ((nibble a : Int) - nibble b - c.toNat) % 16 := by
    simp only [nibble]
    omega
  rw [hres, halfBorrow, toNat_decide_borrow c (nibble_lt a) (nibble_lt b), Int.mul_neg, Int.sub_neg]
  exact Int.emod_add_mul_ediv _ _

/-- Settles O47: each identity is a remainder with its quotient. -/
theorem aluArithmeticIdentities : Obligations.AluArithmeticIdentities := fun a b c =>
  ⟨addMod_add_carryOut a b c, nibble_addMod_add_halfCarryOut a b c, subMod_sub_borrow a b c,
    nibble_subMod_sub_halfBorrow a b c, rfl, rfl⟩

/-- The difference modulo 256 without negative numbers. -/
theorem subMod_eq_ofNat (a b : Byte) (c : Bool) :
    subMod a b c = BitVec.ofNat 8 (a.toNat + 256 - b.toNat - c.toNat) := by
  have hsub := toNat_subMod a b c
  have hb := b.isLt
  have hc := c.toNat_le
  apply BitVec.eq_of_toNat_eq
  rw [BitVec.toNat_ofNat]
  omega

/-! The ALU's answers, on unsigned integers (R181 to R184). -/

theorem aluApply_add (a b : Byte) (c : Bool) : aluApply .add a b c =
    ⟨BitVec.ofNat 8 (a.toNat + b.toNat), BitVec.ofNat 8 (a.toNat + b.toNat) == 0, false,
      decide (a.toNat % 16 + b.toNat % 16 > 0xF), decide (a.toNat + b.toNat > 0xFF)⟩ := rfl

theorem aluApply_adc (a b : Byte) (c : Bool) : aluApply .adc a b c =
    ⟨BitVec.ofNat 8 (a.toNat + b.toNat + c.toNat), BitVec.ofNat 8 (a.toNat + b.toNat + c.toNat) == 0, false,
      decide (a.toNat % 16 + b.toNat % 16 + c.toNat > 0xF), decide (a.toNat + b.toNat + c.toNat > 0xFF)⟩ := rfl

theorem aluApply_sbc (a b : Byte) (c : Bool) : aluApply .sbc a b c =
    ⟨BitVec.ofNat 8 (a.toNat + 256 - b.toNat - c.toNat), BitVec.ofNat 8 (a.toNat + 256 - b.toNat - c.toNat) == 0, true,
      decide (a.toNat % 16 < b.toNat % 16 + c.toNat), decide (a.toNat < b.toNat + c.toNat)⟩ := by
  rw [aluApply, subMod_eq_ofNat]
  rfl

/-- SUB is SBC without borrow-in (R190). -/
theorem aluApply_sub (a b : Byte) (c : Bool) : aluApply .sub a b c =
    ⟨BitVec.ofNat 8 (a.toNat + 256 - b.toNat), BitVec.ofNat 8 (a.toNat + 256 - b.toNat) == 0, true,
      decide (a.toNat % 16 < b.toNat % 16), decide (a.toNat < b.toNat)⟩ := aluApply_sbc a b false

/-! One tick of each instruction (R180). -/

/-- A is written and then F: the whole pair AF (R20, R180). -/
theorem State.setFlags_setR8_a (s : State) (v : Byte) (z n h c : Bool) :
    (s.setR8 .a v).setFlags z n h c = { s with af := v ++ flagsByte z n h c } :=
  congrArg (fun x : Byte => { s with af := x ++ flagsByte z n h c }) (hi_join v (lo s.af))

/-- An ALU instruction other than CP takes one tick: A and F become the ALU's answer to A, the operand and the carry of
F, and the next opcode is fetched (R103, R180). The answer comes from `ho`; use it as `(exec_alu … :)`, so that no goal
is matched against its fields before it is known. -/
theorem exec_alu {i : Instr} {y : BitVec 3} {op : AluOp} {r : Reg8} {s : State} {o : AluOut}
    (ho : aluApply op (s.getR8 .a) (s.getR8 r) (getFlag s.getF .carry) = o)
    (hop : i.opcode = 0b10#2 ++ y ++ codeOfReg8 r) (hy : aluOfCode y.toNat = op) (hne : op ≠ .cp)
    (hq : s.seq = .boundary) : exec i s = .next { s with
      af := o.res ++ flagsByte o.z o.n o.h o.c, opcode := s.mem.read s.pc, pc := s.pc + 1 } := by
  have hf : i.form = .alu op r := by
    rw [Instr.form_of_opcode hop, classify_aluSelector, hy, if_neg hne]
  rw [exec_of_single_cell (w := .alu op r) (by rw [hf]; rfl) hq, MicroOp.run, State.aluWrite, ho,
    State.setFlags_setR8_a]

/-- Settles O40: the ALU's answer for selector 0, which ignores the carry of F. -/
theorem addExecutes : Obligations.AddExecutes := by
  intro i r s hop hq
  exact (exec_alu (aluApply_add _ _ _) hop rfl (by decide) hq :)

/-- Settles O41: the ALU's answer for selector 1, with the carry of F as carry-in. -/
theorem adcExecutes : Obligations.AdcExecutes := by
  intro i r s hop hq
  exact (exec_alu (aluApply_adc _ _ _) hop rfl (by decide) hq :)

/-- Settles O42: the ALU's answer for selector 2, which ignores the carry of F. -/
theorem subExecutes : Obligations.SubExecutes := by
  intro i r s hop hq
  exact (exec_alu (aluApply_sub _ _ _) hop rfl (by decide) hq :)

/-- Settles O43: the ALU's answer for selector 3, with the carry of F as borrow-in. -/
theorem sbcExecutes : Obligations.SbcExecutes := by
  intro i r s hop hq
  exact (exec_alu (aluApply_sbc _ _ _) hop rfl (by decide) hq :)

/-- Settles O44: the ALU's answers for selectors 4, 5 and 6. -/
theorem logicExecutes : Obligations.LogicExecutes := by
  intro i j k r s hand hxor hor hq
  exact ⟨(exec_alu (op := .and) rfl hand rfl (by decide) hq :), (exec_alu (op := .xor) rfl hxor rfl (by decide) hq :),
    (exec_alu (op := .or) rfl hor rfl (by decide) hq :)⟩

/-- CP takes one tick, the comparison and the fetch (R180, R188). -/
theorem exec_compare {i : Instr} {r : Reg8} {s : State} (hop : i.opcode = 0b10#2 ++ 0b111#3 ++ codeOfReg8 r)
    (hq : s.seq = .boundary) : exec i s =
      .next { s.compare r with opcode := (s.compare r).mem.read (s.compare r).pc, pc := (s.compare r).pc + 1 } := by
  have hf : i.form = .compare r := (Instr.form_of_opcode hop).trans (classify_aluSelector _ r)
  exact exec_of_single_cell (w := .compare r) (by rw [hf]; rfl) hq

/-- Settles O45: the parameter says where half-carry and carry come from. -/
theorem compareExecutes : Obligations.CompareExecutes := by
  intro i r s hop hq a b
  refine ⟨fun hsub => ?_, fun hany => ?_⟩
  · rw [exec_compare hop hq, State.compare, hsub]
    rfl
  · rw [exec_compare hop hq, State.compare, hany]
    rfl

end Sys2Proof.Machine
end

section
/-! ### The exception: taken at decode, sticky, and reached no other way (R200 to R203) -/

namespace Sys2Proof.Machine

/-- In Fault no instruction has an effect (R202). -/
theorem exec_of_fault {s : State} {op : Byte} {a : Word} (i : Instr) (hq : s.seq = .fault op a) :
    exec i s = .next s := by
  rw [exec_eq]
  split
  · simp [takeUnimplemented, hq]
  · exact runCycles_fault _ hq

/-- At Boundary an unimplemented instruction takes the exception (R201). -/
theorem exec_of_unimplemented {i : Instr} {s : State} (hf : i.form = .unimplemented) (hq : s.seq = .boundary) :
    exec i s = .next s.raiseUnimplemented := by
  rw [exec_eq, if_pos hf, takeUnimplemented, hq]

/-- A cycle ends in Boundary or in flight (R102). -/
theorem finishCycle_seq_ne_fault (owed : Nat) (s : State) (op : Byte) (a : Word) :
    (finishCycle owed s).seq ≠ .fault op a := by
  cases owed <;> exact SeqState.noConfusion

/-- Settles O46: the exception is taken, and the Fault it leaves is sticky. -/
theorem unimplementedTakesFault : Obligations.UnimplementedTakesFault := fun _ s hf hq =>
  have hfault : s.raiseUnimplemented.seq = .fault s.opcode (s.pc - 1) := s.raiseUnimplemented_seq
  ⟨exec_of_unimplemented hf hq, busOf_of_unimplemented hf hq,
    fun j => ⟨exec_of_fault j hfault, busOfCycles_of_fault hfault⟩⟩

/-- Settles O52: of the three things a tick can do, the cycle of an implemented instruction never ends in Fault. -/
theorem faultOnlyByDecode : Obligations.FaultOnlyByDecode := by
  intro i s t op a h ht
  rcases exec_next h with ⟨_, _, _, rfl⟩ | ⟨hf, hq, rfl⟩ | ⟨_, w, owed, _, rfl⟩
  · exact .inl ⟨ht, rfl⟩
  · rw [State.raiseUnimplemented_seq] at ht
    obtain ⟨rfl, rfl⟩ := SeqState.fault.inj ht
    exact .inr ⟨hq, hf, rfl, rfl, rfl⟩
  · exact absurd ht (finishCycle_seq_ne_fault owed (w.run s) op a)

end Sys2Proof.Machine
end

section
/-! ### Reset of a running core (R220, R221) -/

namespace Sys2Proof.Machine

/-- Reset clears `opcode`, so the tick after it is a NOP (R221). -/
theorem tick_resetCore (s : State) : tick s.resetCore = exec .nop s.resetCore :=
  congrArg (exec · s.resetCore) (decodeOpcode_opcode .nop)

/-- Settles O7: the driver's turn is the reset alone, and the NOP after it fetches from PC = 0. -/
theorem driverResetRestarts : Obligations.DriverResetRestarts := by
  intro s rest hd
  have hturn : s.driverTurn = ({ s with driver := rest } : State).resetCore := by
    rw [State.driverTurn, hd]
    rfl
  obtain ⟨_, hnop⟩ := nopExecutes
  rw [step, hturn, tick_resetCore, hnop _ rfl]
  rfl

end Sys2Proof.Machine
end

section
/-! ### Who reads F[3:0]: PUSH AF alone (R24, R228) -/

namespace Sys2Proof.Machine

/-! A 16-bit value with other low bits: what its halves and its flags say. -/

/-- `w` with bits 3:0 replaced by `x`. -/
def withLowNibble (w : Word) (x : BitVec 4) : Word := w.extractLsb' 4 12 ++ x

theorem getLsbD_withLowNibble (w : Word) (x : BitVec 4) (n : Nat) :
    (withLowNibble w x).getLsbD n = if n < 4 then x.getLsbD n else w.getLsbD n := by
  refine (BitVec.getLsbD_append (x := w.extractLsb' 4 12)).trans ?_
  by_cases h4 : n < 4
  · simp [h4]
  · have hadd : 4 + (n - 4) = n := by omega
    by_cases h16 : n < 16
    · simp [h4, hadd, show n - 4 < 12 by omega]
    · simp [h4, hadd, BitVec.getLsbD_of_ge w n (by omega)]

theorem extractLsb'_withLowNibble (w : Word) (x : BitVec 4) :
    (withLowNibble w x).extractLsb' 4 12 = w.extractLsb' 4 12 := BitVec.extractLsb'_append_eq_left

theorem hi_withLowNibble (w : Word) (x : BitVec 4) : hi (withLowNibble w x) = hi w := by
  apply BitVec.eq_of_getLsbD_eq
  intro n _
  simp [hi, getLsbD_withLowNibble, show ¬ 8 + n < 4 by omega]

/-- The flags are bits 7:4 (R25). -/
theorem getFlag_lo_withLowNibble (w : Word) (x : BitVec 4) (id : FlagId) :
    getFlag (lo (withLowNibble w x)) id = getFlag (lo w) id := by
  have hbit : ¬ flagBit id < 4 := by cases id <;> decide
  simp [getFlag, lo, getLsbD_withLowNibble, hbit]

/-- The low nibble stays under a new high half. -/
theorem join_lo_withLowNibble (v : Byte) (w : Word) (x : BitVec 4) :
    join v (lo (withLowNibble w x)) = withLowNibble (join v (lo w)) x := by
  apply BitVec.eq_of_getLsbD_eq
  intro n _
  rw [getLsbD_join, getLsbD_withLowNibble, getLsbD_join]
  by_cases h8 : n < 8
  · simp [h8, lo, getLsbD_withLowNibble]
  · simp [h8, show ¬ n < 4 by omega]

/-! The state with another low nibble of F: what each operation makes of it. -/

/-- The state with F[3:0] replaced by `x`. -/
def State.setLowNibble (s : State) (x : BitVec 4) : State := { s with af := withLowNibble s.af x }

section SetLowNibble
variable (s : State) (x : BitVec 4)

theorem State.getR8_setLowNibble (r : Reg8) : (s.setLowNibble x).getR8 r = s.getR8 r := by
  cases r
  case a => exact hi_withLowNibble s.af x
  all_goals rfl

theorem State.getFlag_setLowNibble (id : FlagId) : getFlag (s.setLowNibble x).getF id = getFlag s.getF id :=
  getFlag_lo_withLowNibble s.af x id

theorem State.hi_getPair_setLowNibble (p : Pair) : hi ((s.setLowNibble x).getPair p) = hi (s.getPair p) := by
  cases p
  case af => exact hi_withLowNibble s.af x
  all_goals rfl

theorem State.getPair_setLowNibble_of_ne {p : Pair} (h : p ≠ .af) : (s.setLowNibble x).getPair p = s.getPair p := by
  cases p
  case af => exact absurd rfl h
  all_goals rfl

theorem State.setPair_setLowNibble_of_ne {p : Pair} (v : Word) (h : p ≠ .af) :
    (s.setLowNibble x).setPair p v = (s.setPair p v).setLowNibble x := by
  cases p
  case af => exact absurd rfl h
  all_goals rfl

theorem State.setHi_setLowNibble (p : Pair) (v : Byte) :
    (s.setLowNibble x).setHi p v = (s.setHi p v).setLowNibble x := by
  cases p
  case af => exact congrArg (s.setPair .af) (join_lo_withLowNibble v s.af x)
  all_goals rfl

theorem State.setLo_setLowNibble_of_ne {p : Pair} (v : Byte) (h : p ≠ .af) :
    (s.setLowNibble x).setLo p v = (s.setLo p v).setLowNibble x := by
  rw [State.setLo, State.getPair_setLowNibble_of_ne s x h, State.setPair_setLowNibble_of_ne s x _ h, State.setLo]

theorem State.setR8_setLowNibble (r : Reg8) (v : Byte) :
    (s.setLowNibble x).setR8 r v = (s.setR8 r v).setLowNibble x := by
  cases r
  case a => exact State.setHi_setLowNibble s x .af v
  all_goals rfl

/-- A write of F overwrites its low nibble. -/
theorem State.setF_setLowNibble (v : Byte) : (s.setLowNibble x).setF v = s.setF v :=
  congrArg (fun h => s.setPair .af (join h v)) (hi_withLowNibble s.af x)

theorem State.setFlags_setLowNibble (z n h c : Bool) :
    (s.setLowNibble x).setFlags z n h c = s.setFlags z n h c := State.setF_setLowNibble s x _

theorem State.aluWrite_setLowNibble (op : AluOp) (r : Reg8) : (s.setLowNibble x).aluWrite op r = s.aluWrite op r := by
  simp only [State.aluWrite, State.getR8_setLowNibble, State.getFlag_setLowNibble, State.setR8_setLowNibble,
    State.setFlags_setLowNibble]

theorem State.compare_setLowNibble (r : Reg8) : (s.setLowNibble x).compare r = s.compare r := by
  have hp : (s.setLowNibble x).params = s.params := rfl
  have hd : (s.setLowNibble x).draws = s.draws := rfl
  simp only [State.compare, State.getR8_setLowNibble, State.getFlag_setLowNibble, State.setFlags_setLowNibble, hp, hd]

theorem Mode.ea_setLowNibble (m : Mode) : m.ea (s.setLowNibble x) = m.ea s := by
  cases m <;> rfl

theorem Mode.adjust_setLowNibble (m : Mode) : m.adjust (s.setLowNibble x) = (m.adjust s).setLowNibble x := by
  cases m <;> rfl

theorem Source.value_setLowNibble (y : Source) : y.value (s.setLowNibble x) = y.value s := by
  cases y with
  | reg r => exact State.getR8_setLowNibble s x r
  | _ => rfl

theorem State.byteAt_setLowNibble (a : Word) : (s.setLowNibble x).byteAt a = s.byteAt a := rfl

theorem State.store_setLowNibble (a : Word) (v : Byte) :
    (s.setLowNibble x).store a v = (s.store a v).setLowNibble x := rfl

theorem finishCycle_setLowNibble (n : Nat) :
    finishCycle n (s.setLowNibble x) = (finishCycle n s).setLowNibble x := by
  cases n <;> rfl

/-! The work of a cycle. -/

/-- The work of the cycle reads F[3:0] (R228). -/
def MicroOp.readsLowNibble (w : MicroOp) : Bool :=
  match w with
  | .pushLo p => p = .af
  | _ => false

/-- The work of a cycle that writes F overwrites F[3:0], and depends on the flags at most. -/
theorem MicroOp.run_setLowNibble_of_writesFlags {w : MicroOp} (h : w.writesFlags = true) :
    w.run (s.setLowNibble x) = w.run s := by
  cases w with
  | hlFromSp => exact State.setFlags_setLowNibble { s with hl := s.sp + sext16 s.zlo } x _ _ _ _
  | alu op r => exact State.aluWrite_setLowNibble s x op r
  | compare r => exact State.compare_setLowNibble s x r
  | pairFromLatches p =>
    obtain rfl := of_decide_eq_true h
    rfl
  | popLo p =>
    obtain rfl := of_decide_eq_true h
    exact congrArg (fun t : State => { t with sp := s.sp + 1 }) (State.setF_setLowNibble s x _)
  | _ => cases h

/-- The work of a cycle that neither writes F nor reads F[3:0] acts the same whatever F[3:0] holds. -/
theorem MicroOp.run_setLowNibble {w : MicroOp} (hw : w.writesFlags = false) (hr : w.readsLowNibble = false) :
    w.run (s.setLowNibble x) = (w.run s).setLowNibble x := by
  cases w with
  | hlFromSp | alu op r | compare r => cases hw
  | copy dst src => simp only [MicroOp.run, State.getR8_setLowNibble, State.setR8_setLowNibble]
  | fromLatch dst => exact State.setR8_setLowNibble s x dst s.zlo
  | load dst m =>
    simp only [MicroOp.run, Mode.ea_setLowNibble, State.byteAt_setLowNibble, State.setR8_setLowNibble,
      Mode.adjust_setLowNibble]
  | store y m =>
    simp only [MicroOp.run, Mode.ea_setLowNibble, Source.value_setLowNibble, State.store_setLowNibble,
      Mode.adjust_setLowNibble]
  | pairFromLatches p => exact State.setPair_setLowNibble_of_ne s x s.imm (of_decide_eq_false hw)
  | pushHi p =>
    rw [MicroOp.run, State.hi_getPair_setLowNibble]
    rfl
  | pushLo p =>
    rw [MicroOp.run, State.getPair_setLowNibble_of_ne s x (of_decide_eq_false hr)]
    rfl
  | popLo p =>
    exact congrArg (fun t : State => { t with sp := s.sp + 1 })
      (State.setLo_setLowNibble_of_ne s x (s.byteAt s.sp) (of_decide_eq_false hw))
  | popHi p =>
    exact congrArg (fun t : State => { t with sp := s.sp + 1 }) (State.setHi_setLowNibble s x p (s.byteAt s.sp))
  | wait | latchLo | latchHi | spFromLatches | spFromHL | spDec => rfl

end SetLowNibble

/-! A tick. -/

/-- PUSH AF is a form of its own (R83). -/
theorem Instr.form_ne_push_af (i : Instr) : i.form ≠ .push .af := by
  cases i <;> decide

/-- A form reads F[3:0] in some cell of its schedule exactly if it is PUSH AF (R105, R228). -/
theorem any_schedule_readsLowNibble (p : Params) {f : Form} (hpush : f ≠ .push .af) :
    (schedule p f).any (·.readsLowNibble) = decide (f = .pushAF) := by
  obtain ⟨n, _, _⟩ := p
  cases f
  case ldSPHL => cases n <;> rfl
  case push q =>
    cases q with
    | af => exact absurd rfl hpush
    | _ => rfl
  all_goals rfl

/-- A tick of any instruction but PUSH AF overwrites what F[3:0] held, or it is still there after the tick; nothing
else depends on it (R228). -/
theorem exec_setLowNibble {i : Instr} {s t : State} (x : BitVec 4) (hi : i.form ≠ .pushAF)
    (h : exec i s = .next t) :
    exec i (s.setLowNibble x) = .next t ∨ exec i (s.setLowNibble x) = .next (t.setLowNibble x) := by
  rcases exec_next h with ⟨op, a, hq, rfl⟩ | ⟨hf, hq, rfl⟩ | ⟨hf, w, owed, hd, rfl⟩
  · exact .inr (exec_of_fault i hq)
  · exact .inr (exec_of_unimplemented hf hq)
  · have hexec : exec i (s.setLowNibble x) = .next (finishCycle owed (w.run (s.setLowNibble x))) := by
      rw [exec_eq, if_neg hf]
      exact runCycles_of_cycleDue hd
    obtain ⟨hmem, _⟩ := cycleDue_some hd
    have hany := (any_schedule_readsLowNibble s.params (Instr.form_ne_push_af i)).trans (decide_eq_false hi)
    cases hw : w.writesFlags with
    | true =>
      rw [MicroOp.run_setLowNibble_of_writesFlags s x hw] at hexec
      exact .inl hexec
    | false =>
      rw [MicroOp.run_setLowNibble s x hw (eq_false_of_any_eq_false hany hmem), finishCycle_setLowNibble] at hexec
      exact .inr hexec

/-- Settles O59: the tick ends in the same state, or in that state with the other low nibble. -/
theorem lowNibbleOfFlagsIsUnread : Obligations.LowNibbleOfFlagsIsUnread := by
  intro i s t x hi h
  rcases exec_setLowNibble x hi h with hu | hu
  · exact ⟨t, hu, rfl, rfl⟩
  · exact ⟨t.setLowNibble x, hu, extractLsb'_withLowNibble t.af x, rfl⟩

end Sys2Proof.Machine
end
